-- ==== Sys2Proof/Word.lean ====
section
/-!
DEFINITION. Bits, words, the closed sets of names and the plain records that the spec's operations take and return.
-/

namespace Sys2Proof

/-- A Bit, "a boolean signal value": 0 is `false`, 1 is `true` (R10). -/
abbrev Bit := Bool

/-- A 4-bit unsigned word: PC, AC, MAR, an operand field (R8, R10). -/
abbrev Nibble := BitVec 4

/-- An 8-bit unsigned word: a memory cell, IR, an instruction word (R8, R100). -/
abbrev Byte := BitVec 8

/-- The closed set of register names, in the order of R31. -/
inductive Register where
  | pc | ac | ir | mar
deriving DecidableEq, Repr

/-- The closed set of flag names, in the order of R31. -/
inductive Flag where
  | z | c
deriving DecidableEq, Repr

/-- The comparator's outcome, Ordering3 (R34). -/
inductive Ordering3 where
  | greater | less | equal
deriving DecidableEq, Repr

/-- The mnemonic set of the CPU, exactly these six (R107). -/
inductive Mnemonic where
  | lda | add | sta | out | hlt | nop
deriving DecidableEq, Repr

/-- An array of exactly four elements, element 0 first (R12, R33, R42, R43). -/
structure Quad (α : Type) where
  e0 : α
  e1 : α
  e2 : α
  e3 : α
deriving DecidableEq, Repr

/-- Exactly seven segment flags in the order a to g; 1 means the segment is on (R156). -/
structure Segments where
  a : Bit
  b : Bit
  c : Bit
  d : Bit
  e : Bit
  f : Bit
  g : Bit
deriving DecidableEq, Repr, Inhabited

/-- One argument of a component call, as the caller writes it (R110, R112).
DESIGN CHOICE (log 8): the spec gives the argument types, not their representation. -/
inductive Arg where
  /-- a Bit -/
  | bit (b : Bit)
  /-- a bit array, element 0 first, of any length -/
  | bits (bs : List Bit)
  /-- an integer, any integer -/
  | int (v : Int)
  /-- a finite list of integers -/
  | ints (vs : List Int)
  /-- a register name -/
  | register (r : Register)
  /-- a flag name -/
  | flag (f : Flag)
deriving DecidableEq, Repr

/-- A component call as the caller hands it over: the 16-bit command id of R111 (component in bits 15:8, operation in
bits 7:0) and the arguments. DESIGN CHOICE (log 8). -/
structure Frame where
  id : BitVec 16
  args : List Arg
deriving DecidableEq, Repr

end Sys2Proof
end

