-- ==== Sys2Proof/Syntax.lean ====
section
/-!
DEFINITION. The instructions: one constructor per row of spec/opcode_table.json, in the table's order. The first sixteen
are the CPU's 8-bit words (R100, R103), the eleven opcodes of NOP one row each; the others are the calls of the component
interface with their typed arguments (R110). The operand bits that OUT, HLT and NOP ignore (R105) are kept, so that a word
and its instruction determine each other. DESIGN CHOICE (log 11).
-/

namespace Sys2Proof

inductive Instr where
  /-- `LDA`, R270: load the accumulator from memory. -/
  | lda (operand : Nibble)
  /-- `ADD`, R272: add a memory word to the accumulator. -/
  | add (operand : Nibble)
  /-- `STA`, R274: store the accumulator to memory. -/
  | sta (operand : Nibble)
  /-- `OUT`, R276: send the accumulator to the output buffer; the operand bits are ignored. -/
  | out (unused : Nibble)
  /-- `HLT`, R278: halt the CPU; the operand bits are ignored. -/
  | hlt (unused : Nibble)
  /-- `NOP`, R280: no operation, opcode 0000. -/
  | nop0 (unused : Nibble)
  /-- `NOP`, R280: no operation, opcode 0101. -/
  | nop5 (unused : Nibble)
  /-- `NOP`, R280: no operation, opcode 0110. -/
  | nop6 (unused : Nibble)
  /-- `NOP`, R280: no operation, opcode 0111. -/
  | nop7 (unused : Nibble)
  /-- `NOP`, R280: no operation, opcode 1000. -/
  | nop8 (unused : Nibble)
  /-- `NOP`, R280: no operation, opcode 1001. -/
  | nop9 (unused : Nibble)
  /-- `NOP`, R280: no operation, opcode 1010. -/
  | nopA (unused : Nibble)
  /-- `NOP`, R280: no operation, opcode 1011. -/
  | nopB (unused : Nibble)
  /-- `NOP`, R280: no operation, opcode 1100. -/
  | nopC (unused : Nibble)
  /-- `NOP`, R280: no operation, opcode 1101. -/
  | nopD (unused : Nibble)
  /-- `NOP`, R280: no operation, opcode 1110. -/
  | nopE (unused : Nibble)
  /-- `full_adder.update`, R130. -/
  | fullAdderUpdate (a : Bit) (b : Bit) (cin : Bit)
  /-- `full_adder.getSum`, R131. -/
  | fullAdderGetSum
  /-- `full_adder.getCarryOut`, R132. -/
  | fullAdderGetCarryOut
  /-- `full_adder.reset`, R351. -/
  | fullAdderReset
  /-- `ripple_carry_adder_4bit.update`, R135; element 0 is the least significant. -/
  | rippleAdderUpdate (a : Quad Bit) (b : Quad Bit) (cin : Bit)
  /-- `ripple_carry_adder_4bit.getSum`, R136. -/
  | rippleAdderGetSum
  /-- `ripple_carry_adder_4bit.getCarryOut`, R137. -/
  | rippleAdderGetCarryOut
  /-- `ripple_carry_adder_4bit.reset`, R352. -/
  | rippleAdderReset
  /-- `magnitude_comparator_4bit.compare`, R140; element 3 is the most significant. -/
  | comparatorCompare (a : Quad Bit) (b : Quad Bit)
  /-- `magnitude_comparator_4bit.getResult`, R141. -/
  | comparatorGetResult
  /-- `magnitude_comparator_4bit.reset`, R353. -/
  | comparatorReset
  /-- `mux_4to1.getOutput`, R144; lists of any length (R146), the first select bit the most significant. -/
  | mux4GetOutput (data : List Bit) (select : List Bit)
  /-- `mux_4to1.reset`, R354. -/
  | mux4Reset
  /-- `mux_8to1.getOutput`, R145; lists of any length (R146), the first select bit the most significant. -/
  | mux8GetOutput (data : List Bit) (select : List Bit)
  /-- `mux_8to1.reset`, R354. -/
  | mux8Reset
  /-- `decoder_3to8.getActiveOutput`, R148. -/
  | decoderGetActiveOutput (enable : Bit) (a2 : Bit) (a1 : Bit) (a0 : Bit)
  /-- `decoder_3to8.reset`, R354. -/
  | decoderReset
  /-- `encoder_8to3.getOutput`, R151. -/
  | encoderGetOutput (enable : Bit) (activeIndex : Int)
  /-- `encoder_8to3.reset`, R354. -/
  | encoderReset
  /-- `bcd_to_7seg.getSegmentsFor`, R155. -/
  | sevenSegGetSegmentsFor (n : Int)
  /-- `bcd_to_7seg.reset`, R354. -/
  | sevenSegReset
  /-- `sr_latch_nor.update`, R180; s and r, active-high. -/
  | srNorUpdate (set : Bit) (rst : Bit)
  /-- `sr_latch_nor.getQ`, R181. -/
  | srNorGetQ
  /-- `sr_latch_nor.getQNot`, R182. -/
  | srNorGetQNot
  /-- `sr_latch_nor.reset`, R355. -/
  | srNorReset
  /-- `sr_latch_nand.update`, R184; s and r, active-low. -/
  | srNandUpdate (set : Bit) (rst : Bit)
  /-- `sr_latch_nand.getQ`, R185. -/
  | srNandGetQ
  /-- `sr_latch_nand.getQNot`, R186. -/
  | srNandGetQNot
  /-- `sr_latch_nand.reset`, R356. -/
  | srNandReset
  /-- `d_latch_level_sensitive.update`, R190. -/
  | dLatchUpdate (d : Bit) (enable : Bit)
  /-- `d_latch_level_sensitive.getQ`, R191. -/
  | dLatchGetQ
  /-- `d_latch_level_sensitive.getQNot`, R192. -/
  | dLatchGetQNot
  /-- `d_latch_level_sensitive.reset`, R357. -/
  | dLatchReset
  /-- `d_flipflop_master_slave.update`, R200. -/
  | masterSlaveUpdate (d : Bit) (clk : Bit)
  /-- `d_flipflop_master_slave.getQ`, R201. -/
  | masterSlaveGetQ
  /-- `d_flipflop_master_slave.getQNot`, R202. -/
  | masterSlaveGetQNot
  /-- `d_flipflop_master_slave.reset`, R358. -/
  | masterSlaveReset
  /-- `jk_flipflop_edge_triggered.setInputs`, R210. -/
  | jkSetInputs (j : Bit) (k : Bit)
  /-- `jk_flipflop_edge_triggered.clock`, R211. -/
  | jkClock
  /-- `jk_flipflop_edge_triggered.getQ`, R212. -/
  | jkGetQ
  /-- `jk_flipflop_edge_triggered.getQNot`, R213. -/
  | jkGetQNot
  /-- `jk_flipflop_edge_triggered.reset`, R359. -/
  | jkReset
  /-- `t_flipflop_edge_triggered.setInput`, R220. -/
  | tFlipSetInput (t : Bit)
  /-- `t_flipflop_edge_triggered.clock`, R221. -/
  | tFlipClock
  /-- `t_flipflop_edge_triggered.getQ`, R222. -/
  | tFlipGetQ
  /-- `t_flipflop_edge_triggered.getQNot`, R223. -/
  | tFlipGetQNot
  /-- `t_flipflop_edge_triggered.reset`, R360. -/
  | tFlipReset
  /-- `counter_4bit_sync_updown.clock`, R232. -/
  | counterClock
  /-- `counter_4bit_sync_updown.toggleMode`, R233. -/
  | counterToggleMode
  /-- `counter_4bit_sync_updown.getValue`, R234. -/
  | counterGetValue
  /-- `counter_4bit_sync_updown.getBits`, R235. -/
  | counterGetBits
  /-- `counter_4bit_sync_updown.isUpMode`, R236. -/
  | counterIsUpMode
  /-- `counter_4bit_sync_updown.reset`, R361. -/
  | counterReset
  /-- `shift_register_4bit_serial.setDataInput`, R240. -/
  | shiftSetDataInput (v : Bit)
  /-- `shift_register_4bit_serial.clock`, R241. -/
  | shiftClock
  /-- `shift_register_4bit_serial.getSerialOut`, R242. -/
  | shiftGetSerialOut
  /-- `shift_register_4bit_serial.getBits`, R243. -/
  | shiftGetBits
  /-- `shift_register_4bit_serial.reset`, R362. -/
  | shiftReset
  /-- `cpu_core.step`, R260 to R266. -/
  | cpuStep
  /-- `cpu_core.reset`, R363. -/
  | cpuReset
  /-- `cpu_core.loadProgram`, R90. -/
  | cpuLoadProgram (words : List Int) (startAddress : Int)
  /-- `cpu_core.setDataInMemory`, R89. -/
  | cpuSetDataInMemory (address : Int) (value : Int)
  /-- `cpu_core.getRegisterValue`, R285. -/
  | cpuGetRegisterValue (r : Register)
  /-- `cpu_core.getFlagValue`, R286. -/
  | cpuGetFlagValue (f : Flag)
  /-- `cpu_core.getMemoryState`, R287. -/
  | cpuGetMemoryState
  /-- `cpu_core.isHalted`, R288. -/
  | cpuIsHalted
  /-- `cpu_core.getLastActionDescription`, R289. -/
  | cpuGetLastActionDescription
  /-- `cpu_core.getLastOutput`, R290. -/
  | cpuGetLastOutput
  /-- `cpu_core.disassemble`, R107, R291. -/
  | cpuDisassemble (instruction : Int)
deriving DecidableEq, Repr

end Sys2Proof
end

