-- ==== Sys2Proof/WellFormed.lean ====
section
/-!
DEFINITION. Well-formed calls. A CPU word cannot be ill-formed: every 8-bit word is an instruction (R102, R104). Neither can
a value of Instr: its arguments are typed as the interface types them (R110, R112). What can be ill-formed is a call as the
caller hands it over (Frame), and these are the checks: the command id is one of the table's (R111), the arguments are as
many and of the kinds the operation takes (R110), and an adder or comparator operand has exactly four bits (R112, D6).
-/

namespace Sys2Proof

/-- What an operation takes at one argument position (R110). -/
inductive ArgKind where
  | bit | quad | bits | int | ints | register | flag
deriving DecidableEq, Repr

/-- The argument kinds of a command id; `none` for an id that is no command (R110, R111). -/
def signature : Nat → Option (List ArgKind)
  | 0x0101 => some [.bit, .bit, .bit]
  | 0x0102 => some []
  | 0x0103 => some []
  | 0x0104 => some []
  | 0x0201 => some [.quad, .quad, .bit]
  | 0x0202 => some []
  | 0x0203 => some []
  | 0x0204 => some []
  | 0x0301 => some [.quad, .quad]
  | 0x0302 => some []
  | 0x0303 => some []
  | 0x0401 => some [.bits, .bits]
  | 0x0402 => some []
  | 0x0501 => some [.bits, .bits]
  | 0x0502 => some []
  | 0x0601 => some [.bit, .bit, .bit, .bit]
  | 0x0602 => some []
  | 0x0701 => some [.bit, .int]
  | 0x0702 => some []
  | 0x0801 => some [.int]
  | 0x0802 => some []
  | 0x0901 => some [.bit, .bit]
  | 0x0902 => some []
  | 0x0903 => some []
  | 0x0904 => some []
  | 0x0A01 => some [.bit, .bit]
  | 0x0A02 => some []
  | 0x0A03 => some []
  | 0x0A04 => some []
  | 0x0B01 => some [.bit, .bit]
  | 0x0B02 => some []
  | 0x0B03 => some []
  | 0x0B04 => some []
  | 0x0C01 => some [.bit, .bit]
  | 0x0C02 => some []
  | 0x0C03 => some []
  | 0x0C04 => some []
  | 0x0D01 => some [.bit, .bit]
  | 0x0D02 => some []
  | 0x0D03 => some []
  | 0x0D04 => some []
  | 0x0D05 => some []
  | 0x0E01 => some [.bit]
  | 0x0E02 => some []
  | 0x0E03 => some []
  | 0x0E04 => some []
  | 0x0E05 => some []
  | 0x0F01 => some []
  | 0x0F02 => some []
  | 0x0F03 => some []
  | 0x0F04 => some []
  | 0x0F05 => some []
  | 0x0F06 => some []
  | 0x1001 => some [.bit]
  | 0x1002 => some []
  | 0x1003 => some []
  | 0x1004 => some []
  | 0x1005 => some []
  | 0x1101 => some []
  | 0x1102 => some []
  | 0x1103 => some [.ints, .int]
  | 0x1104 => some [.int, .int]
  | 0x1105 => some [.register]
  | 0x1106 => some [.flag]
  | 0x1107 => some []
  | 0x1108 => some []
  | 0x1109 => some []
  | 0x110A => some []
  | 0x110B => some [.int]
  | _ => none

/-- The argument is of the kind; a `quad` is a bit array of exactly four elements (R112). -/
def Arg.fits : Arg → ArgKind → Bool
  | .bit _, .bit => true
  | .bits bs, .quad => bs.length == 4
  | .bits _, .bits => true
  | .int _, .int => true
  | .ints _, .ints => true
  | .register _, .register => true
  | .flag _, .flag => true
  | _, _ => false

/-- As many arguments as kinds, each of its kind. -/
def argsFit : List Arg → List ArgKind → Bool
  | [], [] => true
  | a :: as, k :: ks => a.fits k && argsFit as ks
  | _, _ => false

/-- The call can be made: its id is a command and its arguments are that command's. -/
def Frame.wellFormed (f : Frame) : Bool :=
  match signature f.id.toNat with
  | some ks => argsFit f.args ks
  | none => false

end Sys2Proof
end

