-- ==== Sys2Proof/Decode.lean ====
section
/-!
DEFINITION. Decoding: a CPU word is an instruction whatever its bits (R102 to R105); a call is decoded by its command id
(R111) and its arguments, or rejected by name. After the decoder, the encoder.
-/

namespace Sys2Proof

/-- What the decoder is given: an 8-bit CPU word, or a call of the component interface. -/
inductive Encoded where
  | word (w : Byte)
  | call (f : Frame)
deriving DecidableEq, Repr

/-- Why a call is rejected. No CPU word is (R104). -/
inductive Reject where
  /-- the id is no command of R111 -/
  | unknownCommand
  /-- not as many arguments as the operation takes, or of other kinds (R110, R112) -/
  | badArguments
  /-- an adder or comparator operand whose length is not 4 (R112, D6) -/
  | operandLength
deriving DecidableEq, Repr

/-- `w[3:0]` (R100). -/
def operandOf (w : Byte) : Nibble :=
  w.extractLsb' 0 4

/-- `w[7:4]` (R100). -/
def opcodeOf (w : Byte) : Nibble :=
  w.extractLsb' 4 4

/-- The opcode map of R103, on bits 7 to 4; all sixteen values, no default. -/
def decodeWord (w : Byte) : Instr :=
  match w.getLsbD 7, w.getLsbD 6, w.getLsbD 5, w.getLsbD 4 with
  | false, false, false, false => .nop0 (operandOf w)
  | false, false, false, true => .lda (operandOf w)
  | false, false, true, false => .add (operandOf w)
  | false, false, true, true => .sta (operandOf w)
  | false, true, false, false => .out (operandOf w)
  | false, true, false, true => .nop5 (operandOf w)
  | false, true, true, false => .nop6 (operandOf w)
  | false, true, true, true => .nop7 (operandOf w)
  | true, false, false, false => .nop8 (operandOf w)
  | true, false, false, true => .nop9 (operandOf w)
  | true, false, true, false => .nopA (operandOf w)
  | true, false, true, true => .nopB (operandOf w)
  | true, true, false, false => .nopC (operandOf w)
  | true, true, false, true => .nopD (operandOf w)
  | true, true, true, false => .nopE (operandOf w)
  | true, true, true, true => .hlt (operandOf w)

/-- A call whose operation number is one of the component's `n` but whose arguments do not fit, or one that is no
operation of the component. -/
def rejectCall (n op : Nat) : Reject :=
  if 1 ≤ op ∧ op ≤ n then .badArguments else .unknownCommand

/-- The operations of full_adder (R110), component 1. -/
def decodeFullAdder : Nat → List Arg → Except Reject Instr
  | 1, [.bit a, .bit b, .bit cin] => .ok (.fullAdderUpdate a b cin)
  | 2, [] => .ok .fullAdderGetSum
  | 3, [] => .ok .fullAdderGetCarryOut
  | 4, [] => .ok .fullAdderReset
  | op, _ => .error (rejectCall 4 op)

/-- The operations of ripple_carry_adder_4bit (R110), component 2. -/
def decodeRippleAdder : Nat → List Arg → Except Reject Instr
  | 1, [.bits [a0, a1, a2, a3], .bits [b0, b1, b2, b3], .bit cin] => .ok (.rippleAdderUpdate ⟨a0, a1, a2, a3⟩ ⟨b0, b1, b2, b3⟩ cin)
  | 1, [.bits _, .bits _, .bit _] => .error .operandLength
  | 2, [] => .ok .rippleAdderGetSum
  | 3, [] => .ok .rippleAdderGetCarryOut
  | 4, [] => .ok .rippleAdderReset
  | op, _ => .error (rejectCall 4 op)

/-- The operations of magnitude_comparator_4bit (R110), component 3. -/
def decodeComparator : Nat → List Arg → Except Reject Instr
  | 1, [.bits [a0, a1, a2, a3], .bits [b0, b1, b2, b3]] => .ok (.comparatorCompare ⟨a0, a1, a2, a3⟩ ⟨b0, b1, b2, b3⟩)
  | 1, [.bits _, .bits _] => .error .operandLength
  | 2, [] => .ok .comparatorGetResult
  | 3, [] => .ok .comparatorReset
  | op, _ => .error (rejectCall 3 op)

/-- The operations of mux_4to1 (R110), component 4. -/
def decodeMux4 : Nat → List Arg → Except Reject Instr
  | 1, [.bits data, .bits select] => .ok (.mux4GetOutput data select)
  | 2, [] => .ok .mux4Reset
  | op, _ => .error (rejectCall 2 op)

/-- The operations of mux_8to1 (R110), component 5. -/
def decodeMux8 : Nat → List Arg → Except Reject Instr
  | 1, [.bits data, .bits select] => .ok (.mux8GetOutput data select)
  | 2, [] => .ok .mux8Reset
  | op, _ => .error (rejectCall 2 op)

/-- The operations of decoder_3to8 (R110), component 6. -/
def decodeDecoder : Nat → List Arg → Except Reject Instr
  | 1, [.bit enable, .bit a2, .bit a1, .bit a0] => .ok (.decoderGetActiveOutput enable a2 a1 a0)
  | 2, [] => .ok .decoderReset
  | op, _ => .error (rejectCall 2 op)

/-- The operations of encoder_8to3 (R110), component 7. -/
def decodeEncoder : Nat → List Arg → Except Reject Instr
  | 1, [.bit enable, .int activeIndex] => .ok (.encoderGetOutput enable activeIndex)
  | 2, [] => .ok .encoderReset
  | op, _ => .error (rejectCall 2 op)

/-- The operations of bcd_to_7seg (R110), component 8. -/
def decodeSevenSeg : Nat → List Arg → Except Reject Instr
  | 1, [.int n] => .ok (.sevenSegGetSegmentsFor n)
  | 2, [] => .ok .sevenSegReset
  | op, _ => .error (rejectCall 2 op)

/-- The operations of sr_latch_nor (R110), component 9. -/
def decodeSrNor : Nat → List Arg → Except Reject Instr
  | 1, [.bit set, .bit rst] => .ok (.srNorUpdate set rst)
  | 2, [] => .ok .srNorGetQ
  | 3, [] => .ok .srNorGetQNot
  | 4, [] => .ok .srNorReset
  | op, _ => .error (rejectCall 4 op)

/-- The operations of sr_latch_nand (R110), component 10. -/
def decodeSrNand : Nat → List Arg → Except Reject Instr
  | 1, [.bit set, .bit rst] => .ok (.srNandUpdate set rst)
  | 2, [] => .ok .srNandGetQ
  | 3, [] => .ok .srNandGetQNot
  | 4, [] => .ok .srNandReset
  | op, _ => .error (rejectCall 4 op)

/-- The operations of d_latch_level_sensitive (R110), component 11. -/
def decodeDLatch : Nat → List Arg → Except Reject Instr
  | 1, [.bit d, .bit enable] => .ok (.dLatchUpdate d enable)
  | 2, [] => .ok .dLatchGetQ
  | 3, [] => .ok .dLatchGetQNot
  | 4, [] => .ok .dLatchReset
  | op, _ => .error (rejectCall 4 op)

/-- The operations of d_flipflop_master_slave (R110), component 12. -/
def decodeMasterSlave : Nat → List Arg → Except Reject Instr
  | 1, [.bit d, .bit clk] => .ok (.masterSlaveUpdate d clk)
  | 2, [] => .ok .masterSlaveGetQ
  | 3, [] => .ok .masterSlaveGetQNot
  | 4, [] => .ok .masterSlaveReset
  | op, _ => .error (rejectCall 4 op)

/-- The operations of jk_flipflop_edge_triggered (R110), component 13. -/
def decodeJk : Nat → List Arg → Except Reject Instr
  | 1, [.bit j, .bit k] => .ok (.jkSetInputs j k)
  | 2, [] => .ok .jkClock
  | 3, [] => .ok .jkGetQ
  | 4, [] => .ok .jkGetQNot
  | 5, [] => .ok .jkReset
  | op, _ => .error (rejectCall 5 op)

/-- The operations of t_flipflop_edge_triggered (R110), component 14. -/
def decodeTFlip : Nat → List Arg → Except Reject Instr
  | 1, [.bit t] => .ok (.tFlipSetInput t)
  | 2, [] => .ok .tFlipClock
  | 3, [] => .ok .tFlipGetQ
  | 4, [] => .ok .tFlipGetQNot
  | 5, [] => .ok .tFlipReset
  | op, _ => .error (rejectCall 5 op)

/-- The operations of counter_4bit_sync_updown (R110), component 15. -/
def decodeCounter : Nat → List Arg → Except Reject Instr
  | 1, [] => .ok .counterClock
  | 2, [] => .ok .counterToggleMode
  | 3, [] => .ok .counterGetValue
  | 4, [] => .ok .counterGetBits
  | 5, [] => .ok .counterIsUpMode
  | 6, [] => .ok .counterReset
  | op, _ => .error (rejectCall 6 op)

/-- The operations of shift_register_4bit_serial (R110), component 16. -/
def decodeShift : Nat → List Arg → Except Reject Instr
  | 1, [.bit v] => .ok (.shiftSetDataInput v)
  | 2, [] => .ok .shiftClock
  | 3, [] => .ok .shiftGetSerialOut
  | 4, [] => .ok .shiftGetBits
  | 5, [] => .ok .shiftReset
  | op, _ => .error (rejectCall 5 op)

/-- The operations of cpu_core (R110), component 17. -/
def decodeCpu : Nat → List Arg → Except Reject Instr
  | 1, [] => .ok .cpuStep
  | 2, [] => .ok .cpuReset
  | 3, [.ints words, .int startAddress] => .ok (.cpuLoadProgram words startAddress)
  | 4, [.int address, .int value] => .ok (.cpuSetDataInMemory address value)
  | 5, [.register r] => .ok (.cpuGetRegisterValue r)
  | 6, [.flag f] => .ok (.cpuGetFlagValue f)
  | 7, [] => .ok .cpuGetMemoryState
  | 8, [] => .ok .cpuIsHalted
  | 9, [] => .ok .cpuGetLastActionDescription
  | 10, [] => .ok .cpuGetLastOutput
  | 11, [.int instruction] => .ok (.cpuDisassemble instruction)
  | op, _ => .error (rejectCall 11 op)

/-- The operations of all components (R111). -/
def decodeCall (component op : Nat) (args : List Arg) : Except Reject Instr :=
  match component with
  | 1 => decodeFullAdder op args
  | 2 => decodeRippleAdder op args
  | 3 => decodeComparator op args
  | 4 => decodeMux4 op args
  | 5 => decodeMux8 op args
  | 6 => decodeDecoder op args
  | 7 => decodeEncoder op args
  | 8 => decodeSevenSeg op args
  | 9 => decodeSrNor op args
  | 10 => decodeSrNand op args
  | 11 => decodeDLatch op args
  | 12 => decodeMasterSlave op args
  | 13 => decodeJk op args
  | 14 => decodeTFlip op args
  | 15 => decodeCounter op args
  | 16 => decodeShift op args
  | 17 => decodeCpu op args
  | _ => .error .unknownCommand

/-- Decoding of a call: component in bits 15:8, operation in bits 7:0 (R111). -/
def decodeFrame (f : Frame) : Except Reject Instr :=
  decodeCall (f.id.toNat / 256) (f.id.toNat % 256) f.args

/-- The decoder. -/
def decode : Encoded → Except Reject Instr
  | .word w => .ok (decodeWord w)
  | .call f => decodeFrame f

/-- The mnemonic of R103 an instruction word disassembles to (R107). -/
def mnemonicOf (w : Byte) : Mnemonic :=
  match w.getLsbD 7, w.getLsbD 6, w.getLsbD 5, w.getLsbD 4 with
  | false, false, false, false => .nop
  | false, false, false, true => .lda
  | false, false, true, false => .add
  | false, false, true, true => .sta
  | false, true, false, false => .out
  | false, true, false, true => .nop
  | false, true, true, false => .nop
  | false, true, true, true => .nop
  | true, false, false, false => .nop
  | true, false, false, true => .nop
  | true, false, true, false => .nop
  | true, false, true, true => .nop
  | true, true, false, false => .nop
  | true, true, false, true => .nop
  | true, true, true, false => .nop
  | true, true, true, true => .hlt

/-- A CPU word: opcode in bits 7:4, operand in bits 3:0 (R100). -/
def cpuWord (opcode operand : Nibble) : Encoded :=
  .word (opcode ++ operand)

/-- A call with its command id (R111). -/
def call (id : BitVec 16) (args : List Arg) : Encoded :=
  .call { id := id, args := args }

/-- A 4-bit array as an argument, element 0 first (R110, D3). -/
def quadArg (q : Quad Bit) : Arg :=
  .bits [q.e0, q.e1, q.e2, q.e3]

/-- The word or the call of an instruction (R103, R111). -/
def encode : Instr → Encoded
  | .lda x => cpuWord 0b0001#4 x
  | .add x => cpuWord 0b0010#4 x
  | .sta x => cpuWord 0b0011#4 x
  | .out x => cpuWord 0b0100#4 x
  | .hlt x => cpuWord 0b1111#4 x
  | .nop0 x => cpuWord 0b0000#4 x
  | .nop5 x => cpuWord 0b0101#4 x
  | .nop6 x => cpuWord 0b0110#4 x
  | .nop7 x => cpuWord 0b0111#4 x
  | .nop8 x => cpuWord 0b1000#4 x
  | .nop9 x => cpuWord 0b1001#4 x
  | .nopA x => cpuWord 0b1010#4 x
  | .nopB x => cpuWord 0b1011#4 x
  | .nopC x => cpuWord 0b1100#4 x
  | .nopD x => cpuWord 0b1101#4 x
  | .nopE x => cpuWord 0b1110#4 x
  | .fullAdderUpdate a b cin => call 0x0101#16 [.bit a, .bit b, .bit cin]
  | .fullAdderGetSum => call 0x0102#16 []
  | .fullAdderGetCarryOut => call 0x0103#16 []
  | .fullAdderReset => call 0x0104#16 []
  | .rippleAdderUpdate a b cin => call 0x0201#16 [quadArg a, quadArg b, .bit cin]
  | .rippleAdderGetSum => call 0x0202#16 []
  | .rippleAdderGetCarryOut => call 0x0203#16 []
  | .rippleAdderReset => call 0x0204#16 []
  | .comparatorCompare a b => call 0x0301#16 [quadArg a, quadArg b]
  | .comparatorGetResult => call 0x0302#16 []
  | .comparatorReset => call 0x0303#16 []
  | .mux4GetOutput data select => call 0x0401#16 [.bits data, .bits select]
  | .mux4Reset => call 0x0402#16 []
  | .mux8GetOutput data select => call 0x0501#16 [.bits data, .bits select]
  | .mux8Reset => call 0x0502#16 []
  | .decoderGetActiveOutput enable a2 a1 a0 => call 0x0601#16 [.bit enable, .bit a2, .bit a1, .bit a0]
  | .decoderReset => call 0x0602#16 []
  | .encoderGetOutput enable activeIndex => call 0x0701#16 [.bit enable, .int activeIndex]
  | .encoderReset => call 0x0702#16 []
  | .sevenSegGetSegmentsFor n => call 0x0801#16 [.int n]
  | .sevenSegReset => call 0x0802#16 []
  | .srNorUpdate set rst => call 0x0901#16 [.bit set, .bit rst]
  | .srNorGetQ => call 0x0902#16 []
  | .srNorGetQNot => call 0x0903#16 []
  | .srNorReset => call 0x0904#16 []
  | .srNandUpdate set rst => call 0x0A01#16 [.bit set, .bit rst]
  | .srNandGetQ => call 0x0A02#16 []
  | .srNandGetQNot => call 0x0A03#16 []
  | .srNandReset => call 0x0A04#16 []
  | .dLatchUpdate d enable => call 0x0B01#16 [.bit d, .bit enable]
  | .dLatchGetQ => call 0x0B02#16 []
  | .dLatchGetQNot => call 0x0B03#16 []
  | .dLatchReset => call 0x0B04#16 []
  | .masterSlaveUpdate d clk => call 0x0C01#16 [.bit d, .bit clk]
  | .masterSlaveGetQ => call 0x0C02#16 []
  | .masterSlaveGetQNot => call 0x0C03#16 []
  | .masterSlaveReset => call 0x0C04#16 []
  | .jkSetInputs j k => call 0x0D01#16 [.bit j, .bit k]
  | .jkClock => call 0x0D02#16 []
  | .jkGetQ => call 0x0D03#16 []
  | .jkGetQNot => call 0x0D04#16 []
  | .jkReset => call 0x0D05#16 []
  | .tFlipSetInput t => call 0x0E01#16 [.bit t]
  | .tFlipClock => call 0x0E02#16 []
  | .tFlipGetQ => call 0x0E03#16 []
  | .tFlipGetQNot => call 0x0E04#16 []
  | .tFlipReset => call 0x0E05#16 []
  | .counterClock => call 0x0F01#16 []
  | .counterToggleMode => call 0x0F02#16 []
  | .counterGetValue => call 0x0F03#16 []
  | .counterGetBits => call 0x0F04#16 []
  | .counterIsUpMode => call 0x0F05#16 []
  | .counterReset => call 0x0F06#16 []
  | .shiftSetDataInput v => call 0x1001#16 [.bit v]
  | .shiftClock => call 0x1002#16 []
  | .shiftGetSerialOut => call 0x1003#16 []
  | .shiftGetBits => call 0x1004#16 []
  | .shiftReset => call 0x1005#16 []
  | .cpuStep => call 0x1101#16 []
  | .cpuReset => call 0x1102#16 []
  | .cpuLoadProgram words startAddress => call 0x1103#16 [.ints words, .int startAddress]
  | .cpuSetDataInMemory address value => call 0x1104#16 [.int address, .int value]
  | .cpuGetRegisterValue r => call 0x1105#16 [.register r]
  | .cpuGetFlagValue f => call 0x1106#16 [.flag f]
  | .cpuGetMemoryState => call 0x1107#16 []
  | .cpuIsHalted => call 0x1108#16 []
  | .cpuGetLastActionDescription => call 0x1109#16 []
  | .cpuGetLastOutput => call 0x110A#16 []
  | .cpuDisassemble instruction => call 0x110B#16 [.int instruction]

/-- The argument of an operand word of zeros: 0, the empty list, the first name of R31. DESIGN CHOICE (log 8). -/
def zeroArg : ArgKind → Arg
  | .bit => .bit false
  | .quad => .bits [false, false, false, false]
  | .bits => .bits []
  | .int => .int 0
  | .ints => .ints []
  | .register => .register .pc
  | .flag => .flag .z

/-- The call of a command id with arguments of zeros. DESIGN CHOICE (log 8): the id has no bits for its arguments. -/
def zeroFrame (id : BitVec 16) : Frame :=
  { id := id, args := ((signature id.toNat).getD []).map zeroArg }

/-- The instruction in the bits `w` of an opcode-table row: an 8-bit CPU word, or a 16-bit command id whose arguments are
zeros (R111). -/
def decodeTableWord (nbits w : Nat) : Option Instr :=
  if nbits = 8 then some (decodeWord (BitVec.ofNat 8 w))
  else if nbits = 16 then (decodeFrame (zeroFrame (BitVec.ofNat 16 w))).toOption
  else none

end Sys2Proof
end

