-- ==== Sys2Proof/Config.lean ====
section
/-!
DEFINITION. What the spec leaves without a value: constants with no body, so that no proof can rest on a value of theirs.
-/

namespace Sys2Proof

/-- SEG_TABLE, the seven-segment lookup table: the spec's open parameter (R9, R156, D9). DESIGN CHOICE (log 5), safe: free. -/
opaque Config.segTable : Fin 16 → Segments

/-- The text of the `n`-th write of `desc`: "any text" (R54, R265, D21). DESIGN CHOICE (log 3), safe: free. -/
opaque Config.freeText : Nat → String

/-- The full text `disassemble` gives for a word; only its mnemonic is normative (R107, U2). DESIGN CHOICE (log 6), safe: free. -/
opaque Config.disasmText : Byte → String

/-- `mask_8` of a negative integer: R11 defines `mask_N` for non-negative integers only, and the callers of R89, R90 and
R107 may pass any integer (R112). DESIGN CHOICE (log 7), safe: free. -/
opaque Config.maskNegative : Int → Byte

/-- One row of the font of R160, written as the table writes it: a b c d e f g. -/
def Config.glyph (a b c d e f g : Nat) : Segments :=
  { a := a == 1, b := b == 1, c := c == 1, d := d == 1, e := e == 1, f := f == 1, g := g == 1 }

/-- The sixteen rows of the font of R160, 0 first. -/
def Config.suggestedFont : List Segments :=
  [ glyph 1 1 1 1 1 1 0, glyph 0 1 1 0 0 0 0, glyph 1 1 0 1 1 0 1, glyph 1 1 1 1 0 0 1,
    glyph 0 1 1 0 0 1 1, glyph 1 0 1 1 0 1 1, glyph 1 0 1 1 1 1 1, glyph 1 1 1 0 0 0 0,
    glyph 1 1 1 1 1 1 1, glyph 1 1 1 1 0 1 1, glyph 1 1 1 0 1 1 1, glyph 0 0 1 1 1 1 1,
    glyph 1 0 0 1 1 1 0, glyph 0 1 1 1 1 0 1, glyph 1 0 0 1 1 1 1, glyph 1 0 0 0 1 1 1 ]

/-- The suggested default for SEG_TABLE, the common hexadecimal font (R160). PRESUMED (log 5): the spec marks it as general
knowledge, so no meaning uses it; it is data for a reader who chooses it as the table. -/
def Config.suggestedSegTable (n : Fin 16) : Segments :=
  suggestedFont.getD n.val default

end Sys2Proof
end

