-- ==== Sys2Proof/Machine/State.lean ====
section
/-!
DEFINITION. The state: one record per component (10_state.md), and the model's own three fields (the caller's calls, what
the last operation returned, the count of free texts). All plain data. Then the reset state and the reasons to stop.
-/

namespace Sys2Proof.Machine

/-- The CPU's memory as (address, byte) pairs, addresses 0 to 15 strictly rising, no pair with the byte an unlisted cell
reads as (log 13). -/
abbrev Memory := List Host.Cell

/-- What an unlisted cell reads as: the reset contents 0x00 (R44, R91, R363). -/
def unlisted : Byte := 0x00#8

/-- full_adder, and one stage of the ripple adder (R32). -/
structure FullAdder where
  sum : Bit
  cout : Bit
deriving DecidableEq, Repr

/-- ripple_carry_adder_4bit: four stages, stage 0 the least significant (R33). -/
structure RippleAdder where
  fa : Quad FullAdder
deriving DecidableEq, Repr

/-- magnitude_comparator_4bit: the cached outcome (R34). -/
structure Comparator where
  result : Ordering3
deriving DecidableEq, Repr

/-- A latch: Q and the stored Q' (R36, R37, R38). -/
structure Latch where
  q : Bit
  qn : Bit
deriving DecidableEq, Repr

/-- d_flipflop_master_slave: two D latches (R39). -/
structure MasterSlave where
  master : Latch
  slave : Latch
deriving DecidableEq, Repr

/-- jk_flipflop_edge_triggered: Q and the staged J and K (R40). -/
structure JkFlipFlop where
  q : Bit
  j : Bit
  k : Bit
deriving DecidableEq, Repr

/-- t_flipflop_edge_triggered, and one bit of the counter: Q and the staged T (R41). -/
structure TFlipFlop where
  q : Bit
  t : Bit
deriving DecidableEq, Repr

/-- counter_4bit_sync_updown: `ff[i].Q` is bit i; `up` is the mode (R42). -/
structure Counter where
  ff : Quad TFlipFlop
  up : Bit
deriving DecidableEq, Repr

/-- shift_register_4bit_serial: the bits and the staged serial input (R43). -/
structure ShiftRegister where
  bits : Quad Bit
  dataIn : Bit
deriving DecidableEq, Repr

/-- cpu_core (R44). -/
structure Cpu where
  /-- the sixteen cells (R45) -/
  mem : Memory
  /-- program counter (R46) -/
  pc : Nibble
  /-- accumulator (R47) -/
  ac : Nibble
  /-- memory address register (R48) -/
  mar : Nibble
  /-- instruction register (R49) -/
  ir : Byte
  /-- zero flag (R50) -/
  z : Bit
  /-- carry flag (R50) -/
  c : Bit
  /-- the halt state (R52) -/
  halted : Bit
  /-- the one-slot output buffer; `none` is the empty marker (R53, D20) -/
  out : Option Nibble
  /-- the description of the last action: unconstrained text (R54, D21) -/
  desc : String
deriving DecidableEq, Repr

/-- What an operation returns to its caller (R13, R110). DESIGN CHOICE (log 2). -/
inductive Ret where
  /-- the operation returns nothing -/
  | none
  /-- a Bit -/
  | bit (b : Bit)
  /-- a bit array, in the order the operation's rule gives it -/
  | bits (bs : List Bit)
  /-- the comparator's outcome (R140, D5) -/
  | ordering (o : Ordering3)
  /-- the decoder's active line, or none active (R148, D7) -/
  | line (l : Option (Fin 8))
  /-- an unsigned integer: a counter value or a register (R234, R285) -/
  | value (n : Nat)
  /-- a copy of the cells 0 to 15, cell 0 first (R287) -/
  | memory (cells : List Byte)
  /-- the description (R289) -/
  | text (t : String)
  /-- the drained output buffer (R290) -/
  | output (o : Option Nibble)
  /-- the normative mnemonic and the free text of `disassemble` (R107, U2) -/
  | disassembly (m : Mnemonic) (text : String)
deriving DecidableEq, Repr

/-- One instance of each component that holds state (R2, R30), and the model's own fields. -/
structure State where
  fullAdder : FullAdder
  rippleAdder : RippleAdder
  comparator : Comparator
  srNor : Latch
  srNand : Latch
  dLatch : Latch
  masterSlave : MasterSlave
  jk : JkFlipFlop
  tFlip : TFlipFlop
  counter : Counter
  shift : ShiftRegister
  cpu : Cpu
  /-- the model's own: the caller's calls not yet made, oldest first (R18, R19; log 1) -/
  calls : List Frame
  /-- the model's own: what the last operation returned (log 2) -/
  ret : Ret
  /-- the model's own: how many free texts have been drawn (log 3) -/
  draws : Nat
deriving DecidableEq, Repr

/-- Why the machine stops with a fault: NEVER. "The core raises no exceptions" (R320), so there is no constructor and
nothing raises one (log 17; safe: R28 makes every operation total). -/
inductive Fault
deriving DecidableEq, Repr

/-- Why a step is refused. -/
inductive Refusal where
  /-- Raised by an arm of `exec` that has no meaning yet: by none. Safe. -/
  | notModelled (mnemonic : String)
  /-- Raised by `step` when the caller's next call has an id that is no command of R111. Safe: no such call exists (log 8). -/
  | unknownCommand (id : BitVec 16)
  /-- Raised by `step` when the caller's next call has arguments that are not the operation's (R110, R112). Safe: no such
  call can be written down (log 8). -/
  | badArguments (id : BitVec 16)
  /-- Raised by `step` when an adder or comparator operand of the caller's next call has not exactly four bits: "the model
  refuses it at the interface" (R112, D6). Safe (log 8). -/
  | operandLength (id : BitVec 16)
deriving DecidableEq, Repr

/-- How a step or a meaning ends. -/
abbrev Result := Host.Outcome State Fault Refusal

/-- R32, R351 (D4). -/
def resetFullAdder : FullAdder := { sum := false, cout := false }

/-- R33, R352 (D4). -/
def resetRippleAdder : RippleAdder :=
  { fa := { e0 := resetFullAdder, e1 := resetFullAdder, e2 := resetFullAdder, e3 := resetFullAdder } }

/-- R34, R353 (D4). -/
def resetComparator : Comparator := { result := .equal }

/-- R355: "Initial: Q=0, Q'=1"; R356, R357 and R358 decide the same for the other latches (D11, D12, D13). -/
def resetLatch : Latch := { q := false, qn := true }

/-- R358 (D13). -/
def resetMasterSlave : MasterSlave := { master := resetLatch, slave := resetLatch }

/-- R359 (D14). -/
def resetJk : JkFlipFlop := { q := false, j := false, k := false }

/-- R360 (D15). -/
def resetTFlip : TFlipFlop := { q := false, t := false }

/-- R361 (D16): value 0, up mode. -/
def resetCounter : Counter :=
  { ff := { e0 := resetTFlip, e1 := resetTFlip, e2 := resetTFlip, e3 := resetTFlip }, up := true }

/-- R362 (D17). -/
def resetShift : ShiftRegister :=
  { bits := { e0 := false, e1 := false, e2 := false, e3 := false }, dataIn := false }

/-- R363: every register and cell zero, Z set, C clear, not halted, the output buffer empty; the text is unspecified. -/
def resetCpu (text : String) : Cpu :=
  { mem := [], pc := 0#4, ac := 0#4, mar := 0#4, ir := 0x00#8, z := true, c := false, halted := false,
    out := none, desc := text }

/-- The machine right after reset, which is also the machine as built (R30, R350): every component in its reset state, no
call listed, nothing returned, and the description the first free text (log 1, 2, 3). -/
def State.reset : State :=
  { fullAdder := resetFullAdder, rippleAdder := resetRippleAdder, comparator := resetComparator, srNor := resetLatch,
    srNand := resetLatch, dLatch := resetLatch, masterSlave := resetMasterSlave, jk := resetJk, tFlip := resetTFlip,
    counter := resetCounter, shift := resetShift, cpu := resetCpu (Config.freeText 0), calls := [], ret := .none,
    draws := 1 }

end Sys2Proof.Machine
end

