-- ==== Sys2Proof/Machine/Flags.lean ====
section
/-! DEFINITION. The CPU's flag computations (R50). -/

namespace Sys2Proof.Machine

/-- Z: `AC == 0`, on the AC just written (R50, R270, R272). -/
def zeroFlag (ac : Nibble) : Bit :=
  ac == 0#4

/-- C of ADD: the unmasked sum is above 15 (R50, R272). -/
def carryFlag (sum : Nat) : Bit :=
  decide (15 < sum)

/-- Flag housekeeping: C is cleared unless the opcode is ADD's (R263). -/
def housekeeping (opcode : Nibble) (c : Cpu) : Cpu :=
  if opcode = 0b0010#4 then c else { c with c := false }

end Sys2Proof.Machine
end

