-- ==== Sys2Proof/Machine/Operands.lean ====
section
/-!
DEFINITION. Operand forms: masking, the bit arrays in the orders R12 gives them, and the memory primitives that the CPU's
one addressing mode uses (R80, R101).
-/

namespace Sys2Proof.Machine

/-- `mask_8` (R11). For a negative integer, which R11 does not define, a free byte (log 7). -/
def mask8 (v : Int) : Byte :=
  if 0 ≤ v then BitVec.ofNat 8 v.toNat else Config.maskNegative v

/-- `mask_4` of an 8-bit word: its low nibble (R11, R85). -/
def mask4 (w : Byte) : Nibble :=
  w.setWidth 4

/-- `zext_8` of a 4-bit word (R11, R85). -/
def zext8 (v : Nibble) : Byte :=
  v.setWidth 8

/-- The value of a 4-bit array whose element i has weight 2^i (R12, R138, R234). -/
def quadValue (x : Quad Bit) : Nat :=
  x.e0.toNat + 2 * x.e1.toNat + 4 * x.e2.toNat + 8 * x.e3.toNat

/-- A 4-bit array as a list, element 0 first. -/
def quadList (x : Quad Bit) : List Bit :=
  [x.e0, x.e1, x.e2, x.e3]

/-- The value of a bit list whose first element is the most significant: a multiplexer's select word (R12, R144). -/
def selectIndex (select : List Bit) : Nat :=
  select.foldl (fun n b => 2 * n + b.toNat) 0

/-- The contents of a cell: what is listed at it, or what an unlisted cell reads as. -/
def Memory.lookup : Memory → Nat → Byte
  | [], _ => unlisted
  | (k, v) :: rest, a => if k = a then v else Memory.lookup rest a

/-- Writing a cell, keeping the canonical form. -/
def Memory.store : Memory → Nat → Byte → Memory
  | [], a, v => if v = unlisted then [] else [(a, v)]
  | (k, w) :: rest, a, v =>
    if a < k then (if v = unlisted then (k, w) :: rest else (a, v) :: (k, w) :: rest)
    else if a = k then (if v = unlisted then rest else (a, v) :: rest)
    else (k, w) :: Memory.store rest a v

/-- `MemRead(a, 1)` (R80). -/
def Memory.read (m : Memory) (a : Nibble) : Byte :=
  m.lookup a.toNat

/-- `MemWrite(a, 1, v)` (R80). -/
def Memory.write (m : Memory) (a : Nibble) (v : Byte) : Memory :=
  m.store a.toNat v

/-- Every listed address is at least `lo` and at most 15, they rise strictly, and no listed byte is the unlisted one. -/
def Memory.wfFrom : Nat → Memory → Bool
  | _, [] => true
  | lo, (k, v) :: rest => decide (lo ≤ k) && decide (k ≤ 15) && (v != unlisted) && Memory.wfFrom (k + 1) rest

/-- The memory is in its canonical form (log 13). -/
def Memory.wf (m : Memory) : Bool :=
  Memory.wfFrom 0 m

/-- The cells 0 to 15, cell 0 first (R287). -/
def Memory.cells (m : Memory) : List Byte :=
  (List.range 16).map m.lookup

end Sys2Proof.Machine
end

