-- ==== Sys2Proof/Machine/Ops.lean ====
section
/-!
DEFINITION. The operations the meanings share: writing one component, returning to the caller, and the phases of the CPU's
step. There is no operation that takes an exception or returns from one: the core has none (R320, R325, R326; log 17).
-/

namespace Sys2Proof.Machine

def State.setFullAdder (s : State) (v : FullAdder) : State := { s with fullAdder := v }

def State.setRippleAdder (s : State) (v : RippleAdder) : State := { s with rippleAdder := v }

def State.setComparator (s : State) (v : Comparator) : State := { s with comparator := v }

def State.setSrNor (s : State) (v : Latch) : State := { s with srNor := v }

def State.setSrNand (s : State) (v : Latch) : State := { s with srNand := v }

def State.setDLatch (s : State) (v : Latch) : State := { s with dLatch := v }

def State.setMasterSlave (s : State) (v : MasterSlave) : State := { s with masterSlave := v }

def State.setJk (s : State) (v : JkFlipFlop) : State := { s with jk := v }

def State.setTFlip (s : State) (v : TFlipFlop) : State := { s with tFlip := v }

def State.setCounter (s : State) (v : Counter) : State := { s with counter := v }

def State.setShift (s : State) (v : ShiftRegister) : State := { s with shift := v }

def State.setCpu (s : State) (v : Cpu) : State := { s with cpu := v }

def State.setCalls (s : State) (v : List Frame) : State := { s with calls := v }

/-- What the operation returns to its caller. -/
def State.setRet (s : State) (v : Ret) : State := { s with ret := v }

/-- The operation ends and returns `r` (R28: it always does). -/
def give (r : Ret) (s : State) : Result :=
  .next (s.setRet r)

/-- The operation ends and returns nothing. -/
def done (s : State) : Result :=
  give .none s

/-- `desc <- <any text>`: the next free text (R54, R265, D21; log 3). -/
def describe (s : State) : State :=
  { s with cpu := { s.cpu with desc := Config.freeText s.draws }, draws := s.draws + 1 }

/-- The fetch: MAR takes PC, IR the word at MAR, PC the next address modulo 16 (R261). -/
def fetchWord (c : Cpu) : Cpu :=
  { c with mar := c.pc, ir := c.mem.read c.pc, pc := c.pc + 1#4 }

/-- The first phase of a non-halted step (R261). -/
def fetch (s : State) : State :=
  s.setCpu (fetchWord s.cpu)

/-- `MAR <- operand`: the first act of LDA, ADD and STA (R48, R101). -/
def setMar (operand : Nibble) (c : Cpu) : Cpu :=
  { c with mar := operand }

/-- `AC <- v; Z <- (AC == 0)`, the way LDA and ADD write AC (R50). -/
def setAc (v : Nibble) (c : Cpu) : Cpu :=
  { c with ac := v, z := zeroFlag v }

/-- What follows the fetch of a word: housekeeping, its execute phase, the description; `step()` returns nothing
(R263 to R265). -/
def finishWord (opcode : Nibble) (effect : Cpu → Cpu) (s : State) : Result :=
  done (describe (s.setCpu (effect (housekeeping opcode s.cpu))))

/-- A step while halted: the status text and nothing else (R260). -/
def haltedStep (s : State) : Result :=
  done (describe s)

/-- A host write to one integer address: the masked value if the address is 0 to 15, else nothing (R89, R90). -/
def hostWrite (m : Memory) (address value : Int) : Memory :=
  if 0 ≤ address ∧ address ≤ 15 then m.store address.toNat (mask8 value) else m

/-- The words one after the other from an address up; a word whose address is outside 0 to 15 is dropped (R90, D23). -/
def loadWords (m : Memory) : List Int → Int → Memory
  | [], _ => m
  | w :: rest, a => loadWords (hostWrite m a w) rest (a + 1)

/-- How the decoder's rejection of a call is reported. -/
def refusalOf (id : BitVec 16) : Reject → Refusal
  | .unknownCommand => .unknownCommand id
  | .badArguments => .badArguments id
  | .operandLength => .operandLength id

end Sys2Proof.Machine
end

