-- ==== Sys2Proof/Machine/Combinational.lean ====
section
/-! DEFINITION. The combinational components (40_combinational.md). -/

namespace Sys2Proof.Machine

/-- One full-adder stage (R130). -/
def addBits (a b cin : Bit) : FullAdder :=
  { sum := (a ^^ b) ^^ cin, cout := (a && b) || (cin && (a ^^ b)) }

/-- full_adder `update` (R130). -/
def execFullAdderUpdate (a b cin : Bit) (s : State) : Result :=
  done (s.setFullAdder (addBits a b cin))

/-- full_adder `getSum` (R131). -/
def execFullAdderGetSum (s : State) : Result :=
  give (.bit s.fullAdder.sum) s

/-- full_adder `getCarryOut` (R132). -/
def execFullAdderGetCarryOut (s : State) : Result :=
  give (.bit s.fullAdder.cout) s

/-- full_adder `reset` (R351). -/
def execFullAdderReset (s : State) : Result :=
  done (s.setFullAdder resetFullAdder)

/-- Four chained stages, each taking the carry the stage below has just computed (R135). -/
def rippleAdd (a b : Quad Bit) (cin : Bit) : RippleAdder :=
  let f0 := addBits a.e0 b.e0 cin
  let f1 := addBits a.e1 b.e1 f0.cout
  let f2 := addBits a.e2 b.e2 f1.cout
  let f3 := addBits a.e3 b.e3 f2.cout
  { fa := { e0 := f0, e1 := f1, e2 := f2, e3 := f3 } }

/-- The visible sum, `sum[i] = fa[i].sum` (R33, R136). -/
def rippleSum (r : RippleAdder) : Quad Bit :=
  { e0 := r.fa.e0.sum, e1 := r.fa.e1.sum, e2 := r.fa.e2.sum, e3 := r.fa.e3.sum }

/-- ripple_carry_adder_4bit `update` (R135). -/
def execRippleAdderUpdate (a b : Quad Bit) (cin : Bit) (s : State) : Result :=
  done (s.setRippleAdder (rippleAdd a b cin))

/-- ripple_carry_adder_4bit `getSum` (R136). -/
def execRippleAdderGetSum (s : State) : Result :=
  give (.bits (quadList (rippleSum s.rippleAdder))) s

/-- ripple_carry_adder_4bit `getCarryOut` (R137). -/
def execRippleAdderGetCarryOut (s : State) : Result :=
  give (.bit s.rippleAdder.fa.e3.cout) s

/-- ripple_carry_adder_4bit `reset` (R352). -/
def execRippleAdderReset (s : State) : Result :=
  done (s.setRippleAdder resetRippleAdder)

/-- The scan of R140 over pairs of bits, most significant first: the first pair that differs decides. -/
def compareScan : List (Bit × Bit) → Ordering3
  | [] => .equal
  | (true, false) :: _ => .greater
  | (false, true) :: _ => .less
  | _ :: rest => compareScan rest

/-- The outcome of `compare` (R140): indices 3, 2, 1, 0. -/
def compareQuads (a b : Quad Bit) : Ordering3 :=
  compareScan [(a.e3, b.e3), (a.e2, b.e2), (a.e1, b.e1), (a.e0, b.e0)]

/-- magnitude_comparator_4bit `compare`: caches the outcome and returns it (R140, D5). -/
def execComparatorCompare (a b : Quad Bit) (s : State) : Result :=
  give (.ordering (compareQuads a b)) (s.setComparator { result := compareQuads a b })

/-- magnitude_comparator_4bit `getResult` (R141). -/
def execComparatorGetResult (s : State) : Result :=
  give (.ordering s.comparator.result) s

/-- magnitude_comparator_4bit `reset` (R353). -/
def execComparatorReset (s : State) : Result :=
  done (s.setComparator resetComparator)

/-- A multiplexer of `n` data bits and `k` select bits; lists of any other length give 0 (R144, R145, R146). -/
def muxOutput (n k : Nat) (data select : List Bit) : Bit :=
  if data.length = n ∧ select.length = k then data.getD (selectIndex select) false else false

/-- mux_4to1 `getOutput` (R144). -/
def execMux4GetOutput (data select : List Bit) (s : State) : Result :=
  give (.bit (muxOutput 4 2 data select)) s

/-- mux_4to1 `reset` has no effect (R354). -/
def execMux4Reset (s : State) : Result :=
  done s

/-- mux_8to1 `getOutput` (R145). -/
def execMux8GetOutput (data select : List Bit) (s : State) : Result :=
  give (.bit (muxOutput 8 3 data select)) s

/-- mux_8to1 `reset` has no effect (R354). -/
def execMux8Reset (s : State) : Result :=
  done s

/-- The active line, or none when disabled (R148). -/
def activeLine (enable a2 a1 a0 : Bit) : Option (Fin 8) :=
  if enable then some (Fin.ofNat 8 (4 * a2.toNat + 2 * a1.toNat + a0.toNat)) else none

/-- decoder_3to8 `getActiveOutput` (R148). -/
def execDecoderGetActiveOutput (enable a2 a1 a0 : Bit) (s : State) : Result :=
  give (.line (activeLine enable a2 a1 a0)) s

/-- decoder_3to8 `reset` has no effect (R354). -/
def execDecoderReset (s : State) : Result :=
  done s

/-- The code of a line index, high bit first; all 0 when disabled or out of range (R151). -/
def encodeLine (enable : Bit) (activeIndex : Int) : List Bit :=
  if enable ∧ 0 ≤ activeIndex ∧ activeIndex ≤ 7 then
    [activeIndex.toNat.testBit 2, activeIndex.toNat.testBit 1, activeIndex.toNat.testBit 0]
  else [false, false, false]

/-- encoder_8to3 `getOutput` (R151). -/
def execEncoderGetOutput (enable : Bit) (activeIndex : Int) (s : State) : Result :=
  give (.bits (encodeLine enable activeIndex)) s

/-- encoder_8to3 `reset` has no effect (R354). -/
def execEncoderReset (s : State) : Result :=
  done s

/-- Seven flags as the array a to g (R156). -/
def segmentList (g : Segments) : List Bit :=
  [g.a, g.b, g.c, g.d, g.e, g.f, g.g]

/-- The flags for `n` from a table; all off outside 0 to 15 (R155). The table is an argument (R9). -/
def segmentsFor (table : Fin 16 → Segments) (n : Int) : List Bit :=
  if 0 ≤ n ∧ n ≤ 15 then segmentList (table (Fin.ofNat 16 n.toNat))
  else [false, false, false, false, false, false, false]

/-- bcd_to_7seg `getSegmentsFor` (R155), with the spec's open SEG_TABLE (log 5). -/
def execSevenSegGetSegmentsFor (n : Int) (s : State) : Result :=
  give (.bits (segmentsFor Config.segTable n)) s

/-- bcd_to_7seg `reset` has no effect (R354). -/
def execSevenSegReset (s : State) : Result :=
  done s

end Sys2Proof.Machine
end

