-- ==== Sys2Proof/Machine/Latches.lean ====
section
/-! DEFINITION. The latches (41_latches.md). -/

namespace Sys2Proof.Machine

/-- The NOR latch's rule: active-high set and reset; both give the invalid state Q = Q' = 0 (R180). -/
def norLatch (set rst : Bit) (l : Latch) : Latch :=
  match set, rst with
  | true, true => { q := false, qn := false }
  | true, false => { q := true, qn := false }
  | false, true => { q := false, qn := true }
  | false, false => l

/-- The NAND latch's rule: active-low set and reset; both low give the invalid state Q = Q' = 1 (R184). -/
def nandLatch (set rst : Bit) (l : Latch) : Latch :=
  match set, rst with
  | false, false => { q := true, qn := true }
  | false, true => { q := true, qn := false }
  | true, false => { q := false, qn := true }
  | true, true => l

/-- The D latch's rule: transparent while enabled (R190). -/
def gateLatch (d enable : Bit) (l : Latch) : Latch :=
  if enable then { q := d, qn := !d } else l

/-- sr_latch_nor `update` (R180). -/
def execSrNorUpdate (set rst : Bit) (s : State) : Result :=
  done (s.setSrNor (norLatch set rst s.srNor))

/-- sr_latch_nor `getQ` (R181). -/
def execSrNorGetQ (s : State) : Result :=
  give (.bit s.srNor.q) s

/-- sr_latch_nor `getQNot`: the stored Q' (R182). -/
def execSrNorGetQNot (s : State) : Result :=
  give (.bit s.srNor.qn) s

/-- sr_latch_nor `reset` (R355). -/
def execSrNorReset (s : State) : Result :=
  done (s.setSrNor resetLatch)

/-- sr_latch_nand `update` (R184). -/
def execSrNandUpdate (set rst : Bit) (s : State) : Result :=
  done (s.setSrNand (nandLatch set rst s.srNand))

/-- sr_latch_nand `getQ` (R185). -/
def execSrNandGetQ (s : State) : Result :=
  give (.bit s.srNand.q) s

/-- sr_latch_nand `getQNot`: the stored Q' (R186). -/
def execSrNandGetQNot (s : State) : Result :=
  give (.bit s.srNand.qn) s

/-- sr_latch_nand `reset` (R356). -/
def execSrNandReset (s : State) : Result :=
  done (s.setSrNand resetLatch)

/-- d_latch_level_sensitive `update` (R190). -/
def execDLatchUpdate (d enable : Bit) (s : State) : Result :=
  done (s.setDLatch (gateLatch d enable s.dLatch))

/-- d_latch_level_sensitive `getQ` (R191). -/
def execDLatchGetQ (s : State) : Result :=
  give (.bit s.dLatch.q) s

/-- d_latch_level_sensitive `getQNot` (R192). -/
def execDLatchGetQNot (s : State) : Result :=
  give (.bit s.dLatch.qn) s

/-- d_latch_level_sensitive `reset` (R357). -/
def execDLatchReset (s : State) : Result :=
  done (s.setDLatch resetLatch)

end Sys2Proof.Machine
end

