-- ==== Sys2Proof/Machine/FlipFlops.lean ====
section
/-! DEFINITION. The flip-flops (42_flipflops.md). -/

namespace Sys2Proof.Machine

/-- The master takes `d` gated by `clk`, then the slave the master's new output gated by its complement (R200). -/
def masterSlaveUpdate (d clk : Bit) (m : MasterSlave) : MasterSlave :=
  let master := gateLatch d clk m.master
  { master := master, slave := gateLatch master.q (!clk) m.slave }

/-- d_flipflop_master_slave `update` (R200). -/
def execMasterSlaveUpdate (d clk : Bit) (s : State) : Result :=
  done (s.setMasterSlave (masterSlaveUpdate d clk s.masterSlave))

/-- d_flipflop_master_slave `getQ`: the slave's Q (R201). -/
def execMasterSlaveGetQ (s : State) : Result :=
  give (.bit s.masterSlave.slave.q) s

/-- d_flipflop_master_slave `getQNot`: the slave's Q' (R202). -/
def execMasterSlaveGetQNot (s : State) : Result :=
  give (.bit s.masterSlave.slave.qn) s

/-- d_flipflop_master_slave `reset` (R358). -/
def execMasterSlaveReset (s : State) : Result :=
  done (s.setMasterSlave resetMasterSlave)

/-- One clock edge of the JK flip-flop; J and K stay staged (R211, D14). -/
def jkClock (f : JkFlipFlop) : JkFlipFlop :=
  match f.j, f.k with
  | false, false => f
  | false, true => { f with q := false }
  | true, false => { f with q := true }
  | true, true => { f with q := !f.q }

/-- jk_flipflop_edge_triggered `setInputs`: staging only (R210). -/
def execJkSetInputs (j k : Bit) (s : State) : Result :=
  done (s.setJk { s.jk with j := j, k := k })

/-- jk_flipflop_edge_triggered `clock` (R211). -/
def execJkClock (s : State) : Result :=
  done (s.setJk (jkClock s.jk))

/-- jk_flipflop_edge_triggered `getQ` (R212). -/
def execJkGetQ (s : State) : Result :=
  give (.bit s.jk.q) s

/-- jk_flipflop_edge_triggered `getQNot`: the complement of Q (R213). -/
def execJkGetQNot (s : State) : Result :=
  give (.bit (!s.jk.q)) s

/-- jk_flipflop_edge_triggered `reset` (R359). -/
def execJkReset (s : State) : Result :=
  done (s.setJk resetJk)

/-- Staging of the T input (R220). -/
def stageT (t : Bit) (f : TFlipFlop) : TFlipFlop :=
  { f with t := t }

/-- One clock edge of the T flip-flop: Q toggles when T is 1; T stays staged (R221, D15). -/
def tClock (f : TFlipFlop) : TFlipFlop :=
  if f.t then { f with q := !f.q } else f

/-- t_flipflop_edge_triggered `setInput` (R220). -/
def execTFlipSetInput (t : Bit) (s : State) : Result :=
  done (s.setTFlip (stageT t s.tFlip))

/-- t_flipflop_edge_triggered `clock` (R221). -/
def execTFlipClock (s : State) : Result :=
  done (s.setTFlip (tClock s.tFlip))

/-- t_flipflop_edge_triggered `getQ` (R222). -/
def execTFlipGetQ (s : State) : Result :=
  give (.bit s.tFlip.q) s

/-- t_flipflop_edge_triggered `getQNot`: the complement of Q (R223). -/
def execTFlipGetQNot (s : State) : Result :=
  give (.bit (!s.tFlip.q)) s

/-- t_flipflop_edge_triggered `reset` (R360). -/
def execTFlipReset (s : State) : Result :=
  done (s.setTFlip resetTFlip)

end Sys2Proof.Machine
end

