-- ==== Sys2Proof/Machine/Composite.lean ====
section
/-! DEFINITION. The composite sequential circuits (43_composite.md). -/

namespace Sys2Proof.Machine

/-- The counter's four outputs, bit 0 first (R42). -/
def counterBits (c : Counter) : Quad Bit :=
  { e0 := c.ff.e0.q, e1 := c.ff.e1.q, e2 := c.ff.e2.q, e3 := c.ff.e3.q }

/-- The toggle inputs from the pre-clock outputs and the mode (R230). -/
def excitation (up : Bit) (q : Quad Bit) : Quad Bit :=
  if up then { e0 := true, e1 := q.e0, e2 := q.e0 && q.e1, e3 := q.e0 && q.e1 && q.e2 }
  else { e0 := true, e1 := !q.e0, e2 := !q.e0 && !q.e1, e3 := !q.e0 && !q.e1 && !q.e2 }

/-- One synchronous count step: sample every toggle input first, then stage and clock the four flip-flops (R232). -/
def counterStep (c : Counter) : Counter :=
  let t := excitation c.up (counterBits c)
  { c with ff :=
      { e0 := tClock (stageT t.e0 c.ff.e0), e1 := tClock (stageT t.e1 c.ff.e1),
        e2 := tClock (stageT t.e2 c.ff.e2), e3 := tClock (stageT t.e3 c.ff.e3) } }

/-- counter_4bit_sync_updown `clock` (R232). -/
def execCounterClock (s : State) : Result :=
  done (s.setCounter (counterStep s.counter))

/-- counter_4bit_sync_updown `toggleMode` (R233). -/
def execCounterToggleMode (s : State) : Result :=
  done (s.setCounter { s.counter with up := !s.counter.up })

/-- counter_4bit_sync_updown `getValue` (R234). -/
def execCounterGetValue (s : State) : Result :=
  give (.value (quadValue (counterBits s.counter))) s

/-- counter_4bit_sync_updown `getBits` (R235). -/
def execCounterGetBits (s : State) : Result :=
  give (.bits (quadList (counterBits s.counter))) s

/-- counter_4bit_sync_updown `isUpMode` (R236). -/
def execCounterIsUpMode (s : State) : Result :=
  give (.bit s.counter.up) s

/-- counter_4bit_sync_updown `reset` (R361). -/
def execCounterReset (s : State) : Result :=
  done (s.setCounter resetCounter)

/-- One shift toward the most significant slot; every right-hand side is the pre-clock value (R241). -/
def shiftStep (r : ShiftRegister) : ShiftRegister :=
  { r with bits := { e0 := r.dataIn, e1 := r.bits.e0, e2 := r.bits.e1, e3 := r.bits.e2 } }

/-- shift_register_4bit_serial `setDataInput`: staging only (R240). -/
def execShiftSetDataInput (v : Bit) (s : State) : Result :=
  done (s.setShift { s.shift with dataIn := v })

/-- shift_register_4bit_serial `clock` (R241). -/
def execShiftClock (s : State) : Result :=
  done (s.setShift (shiftStep s.shift))

/-- shift_register_4bit_serial `getSerialOut`: the most significant slot (R242). -/
def execShiftGetSerialOut (s : State) : Result :=
  give (.bit s.shift.bits.e3) s

/-- shift_register_4bit_serial `getBits` (R243). -/
def execShiftGetBits (s : State) : Result :=
  give (.bits (quadList s.shift.bits)) s

/-- shift_register_4bit_serial `reset` (R362). -/
def execShiftReset (s : State) : Result :=
  done (s.setShift resetShift)

end Sys2Proof.Machine
end

