-- ==== Sys2Proof/Machine/CpuWords.lean ====
section
/-!
DEFINITION. The CPU's instruction words. A meaning is what follows the fetch of its word (R263 to R265): the state it is
given has PC already advanced, MAR at the instruction's own address and the word in IR (R261; log 12).
-/

namespace Sys2Proof.Machine

/-- The execute phase of LDA: `MAR <- operand; AC <- mask_4(mem[MAR]); Z <- (AC == 0)` (R270). -/
def loadEffect (operand : Nibble) (c : Cpu) : Cpu :=
  setAc (mask4 (c.mem.read operand)) (setMar operand c)

/-- The execute phase of ADD: the whole 8-bit word is added, unmasked; only the sum is masked (R272). -/
def addEffect (operand : Nibble) (c : Cpu) : Cpu :=
  let sum := c.ac.toNat + (c.mem.read operand).toNat
  { setAc (BitVec.ofNat 4 sum) (setMar operand c) with c := carryFlag sum }

/-- The execute phase of STA: `MAR <- operand; mem[MAR] <- zext_8(AC)` (R274). -/
def storeEffect (operand : Nibble) (c : Cpu) : Cpu :=
  { setMar operand c with mem := c.mem.write operand (zext8 c.ac) }

/-- The execute phase of OUT: `out <- some(AC)` (R276). -/
def outEffect (c : Cpu) : Cpu :=
  { c with out := some c.ac }

/-- The execute phase of HLT: `halted <- 1` (R278). -/
def haltEffect (c : Cpu) : Cpu :=
  { c with halted := true }

/-- A NOP word: nothing in the execute phase (R280). -/
def finishNop (opcode : Nibble) (s : State) : Result :=
  finishWord opcode (fun c => c) s

/-- LDA (R270). -/
def execLda (operand : Nibble) (s : State) : Result :=
  finishWord 0b0001#4 (loadEffect operand) s

/-- ADD (R272). -/
def execAdd (operand : Nibble) (s : State) : Result :=
  finishWord 0b0010#4 (addEffect operand) s

/-- STA (R274). -/
def execSta (operand : Nibble) (s : State) : Result :=
  finishWord 0b0011#4 (storeEffect operand) s

/-- OUT (R276); the operand bits are ignored (R105). -/
def execOut (_unused : Nibble) (s : State) : Result :=
  finishWord 0b0100#4 outEffect s

/-- HLT (R278); the operand bits are ignored (R105). -/
def execHlt (_unused : Nibble) (s : State) : Result :=
  finishWord 0b1111#4 haltEffect s

/-- NOP, opcode 0000 (R280). -/
def execNop0 (_unused : Nibble) (s : State) : Result :=
  finishNop 0b0000#4 s

/-- NOP, opcode 0101 (R280). -/
def execNop5 (_unused : Nibble) (s : State) : Result :=
  finishNop 0b0101#4 s

/-- NOP, opcode 0110 (R280). -/
def execNop6 (_unused : Nibble) (s : State) : Result :=
  finishNop 0b0110#4 s

/-- NOP, opcode 0111 (R280). -/
def execNop7 (_unused : Nibble) (s : State) : Result :=
  finishNop 0b0111#4 s

/-- NOP, opcode 1000 (R280). -/
def execNop8 (_unused : Nibble) (s : State) : Result :=
  finishNop 0b1000#4 s

/-- NOP, opcode 1001 (R280). -/
def execNop9 (_unused : Nibble) (s : State) : Result :=
  finishNop 0b1001#4 s

/-- NOP, opcode 1010 (R280). -/
def execNopA (_unused : Nibble) (s : State) : Result :=
  finishNop 0b1010#4 s

/-- NOP, opcode 1011 (R280). -/
def execNopB (_unused : Nibble) (s : State) : Result :=
  finishNop 0b1011#4 s

/-- NOP, opcode 1100 (R280). -/
def execNopC (_unused : Nibble) (s : State) : Result :=
  finishNop 0b1100#4 s

/-- NOP, opcode 1101 (R280). -/
def execNopD (_unused : Nibble) (s : State) : Result :=
  finishNop 0b1101#4 s

/-- NOP, opcode 1110 (R280). -/
def execNopE (_unused : Nibble) (s : State) : Result :=
  finishNop 0b1110#4 s

/-- Decode and execute of a fetched word, on its opcode bits 7 to 4; all sixteen values, no default branch (R264). -/
def executeWord (w : Byte) (s : State) : Result :=
  match w.getLsbD 7, w.getLsbD 6, w.getLsbD 5, w.getLsbD 4 with
  | false, false, false, false => execNop0 (operandOf w) s
  | false, false, false, true => execLda (operandOf w) s
  | false, false, true, false => execAdd (operandOf w) s
  | false, false, true, true => execSta (operandOf w) s
  | false, true, false, false => execOut (operandOf w) s
  | false, true, false, true => execNop5 (operandOf w) s
  | false, true, true, false => execNop6 (operandOf w) s
  | false, true, true, true => execNop7 (operandOf w) s
  | true, false, false, false => execNop8 (operandOf w) s
  | true, false, false, true => execNop9 (operandOf w) s
  | true, false, true, false => execNopA (operandOf w) s
  | true, false, true, true => execNopB (operandOf w) s
  | true, true, false, false => execNopC (operandOf w) s
  | true, true, false, true => execNopD (operandOf w) s
  | true, true, true, false => execNopE (operandOf w) s
  | true, true, true, true => execHlt (operandOf w) s

end Sys2Proof.Machine
end

