-- ==== Sys2Proof/Machine/CpuCalls.lean ====
section
/-! DEFINITION. The calls of cpu_core: `step()`, `reset()`, the host's writes, the accessors and `disassemble`. -/

namespace Sys2Proof.Machine

/-- `step()`: a halted step, or fetch, decode, housekeeping, execute, description (R260, R266). -/
def execCpuStep (s : State) : Result :=
  if s.cpu.halted then haltedStep s else executeWord (fetch s).cpu.ir (fetch s)

/-- `reset()` (R363): the CPU alone; the initial description is the next free text (log 3). -/
def execCpuReset (s : State) : Result :=
  done (describe (s.setCpu (resetCpu s.cpu.desc)))

/-- `loadProgram(words, startAddress)`: memory alone (R90). -/
def execCpuLoadProgram (words : List Int) (startAddress : Int) (s : State) : Result :=
  done (s.setCpu { s.cpu with mem := loadWords s.cpu.mem words startAddress })

/-- `setDataInMemory(address, value)`: memory alone (R89, D24). -/
def execCpuSetDataInMemory (address value : Int) (s : State) : Result :=
  done (s.setCpu { s.cpu with mem := hostWrite s.cpu.mem address value })

/-- A register's value as an unsigned integer (R285). -/
def registerValue (c : Cpu) : Register → Nat
  | .pc => c.pc.toNat
  | .ac => c.ac.toNat
  | .ir => c.ir.toNat
  | .mar => c.mar.toNat

/-- A flag's value (R286). -/
def flagValue (c : Cpu) : Flag → Bit
  | .z => c.z
  | .c => c.c

/-- `getRegisterValue(r)` (R285). -/
def execCpuGetRegisterValue (r : Register) (s : State) : Result :=
  give (.value (registerValue s.cpu r)) s

/-- `getFlagValue(f)` (R286). -/
def execCpuGetFlagValue (f : Flag) (s : State) : Result :=
  give (.bit (flagValue s.cpu f)) s

/-- `getMemoryState()`: a copy of the sixteen cells (R287). -/
def execCpuGetMemoryState (s : State) : Result :=
  give (.memory s.cpu.mem.cells) s

/-- `isHalted()` (R288). -/
def execCpuIsHalted (s : State) : Result :=
  give (.bit s.cpu.halted) s

/-- `getLastActionDescription()` (R289). -/
def execCpuGetLastActionDescription (s : State) : Result :=
  give (.text s.cpu.desc) s

/-- `getLastOutput()` returns the buffer's content and drains it (R290). -/
def execCpuGetLastOutput (s : State) : Result :=
  give (.output s.cpu.out) (s.setCpu { s.cpu with out := none })

/-- `disassemble(instruction)`: the mnemonic of the masked word, and a text the spec leaves open (R107, R291, U2; log 6). -/
def execCpuDisassemble (instruction : Int) (s : State) : Result :=
  give (.disassembly (mnemonicOf (mask8 instruction)) (Config.disasmText (mask8 instruction))) s

end Sys2Proof.Machine
end

