-- ==== Sys2Proof/Machine/Dispatch.lean ====
section
/-! DEFINITION. exec: one arm per constructor of Instr, each one direct call of that instruction's meaning. -/

namespace Sys2Proof.Machine

def exec (i : Instr) (s : State) : Host.Outcome State Fault Refusal :=
  match i with
  | .lda operand => Sys2Proof.Machine.execLda operand s
  | .add operand => Sys2Proof.Machine.execAdd operand s
  | .sta operand => Sys2Proof.Machine.execSta operand s
  | .out unused => Sys2Proof.Machine.execOut unused s
  | .hlt unused => Sys2Proof.Machine.execHlt unused s
  | .nop0 unused => Sys2Proof.Machine.execNop0 unused s
  | .nop5 unused => Sys2Proof.Machine.execNop5 unused s
  | .nop6 unused => Sys2Proof.Machine.execNop6 unused s
  | .nop7 unused => Sys2Proof.Machine.execNop7 unused s
  | .nop8 unused => Sys2Proof.Machine.execNop8 unused s
  | .nop9 unused => Sys2Proof.Machine.execNop9 unused s
  | .nopA unused => Sys2Proof.Machine.execNopA unused s
  | .nopB unused => Sys2Proof.Machine.execNopB unused s
  | .nopC unused => Sys2Proof.Machine.execNopC unused s
  | .nopD unused => Sys2Proof.Machine.execNopD unused s
  | .nopE unused => Sys2Proof.Machine.execNopE unused s
  | .fullAdderUpdate a b cin => Sys2Proof.Machine.execFullAdderUpdate a b cin s
  | .fullAdderGetSum => Sys2Proof.Machine.execFullAdderGetSum s
  | .fullAdderGetCarryOut => Sys2Proof.Machine.execFullAdderGetCarryOut s
  | .fullAdderReset => Sys2Proof.Machine.execFullAdderReset s
  | .rippleAdderUpdate a b cin => Sys2Proof.Machine.execRippleAdderUpdate a b cin s
  | .rippleAdderGetSum => Sys2Proof.Machine.execRippleAdderGetSum s
  | .rippleAdderGetCarryOut => Sys2Proof.Machine.execRippleAdderGetCarryOut s
  | .rippleAdderReset => Sys2Proof.Machine.execRippleAdderReset s
  | .comparatorCompare a b => Sys2Proof.Machine.execComparatorCompare a b s
  | .comparatorGetResult => Sys2Proof.Machine.execComparatorGetResult s
  | .comparatorReset => Sys2Proof.Machine.execComparatorReset s
  | .mux4GetOutput data select => Sys2Proof.Machine.execMux4GetOutput data select s
  | .mux4Reset => Sys2Proof.Machine.execMux4Reset s
  | .mux8GetOutput data select => Sys2Proof.Machine.execMux8GetOutput data select s
  | .mux8Reset => Sys2Proof.Machine.execMux8Reset s
  | .decoderGetActiveOutput enable a2 a1 a0 => Sys2Proof.Machine.execDecoderGetActiveOutput enable a2 a1 a0 s
  | .decoderReset => Sys2Proof.Machine.execDecoderReset s
  | .encoderGetOutput enable activeIndex => Sys2Proof.Machine.execEncoderGetOutput enable activeIndex s
  | .encoderReset => Sys2Proof.Machine.execEncoderReset s
  | .sevenSegGetSegmentsFor n => Sys2Proof.Machine.execSevenSegGetSegmentsFor n s
  | .sevenSegReset => Sys2Proof.Machine.execSevenSegReset s
  | .srNorUpdate set rst => Sys2Proof.Machine.execSrNorUpdate set rst s
  | .srNorGetQ => Sys2Proof.Machine.execSrNorGetQ s
  | .srNorGetQNot => Sys2Proof.Machine.execSrNorGetQNot s
  | .srNorReset => Sys2Proof.Machine.execSrNorReset s
  | .srNandUpdate set rst => Sys2Proof.Machine.execSrNandUpdate set rst s
  | .srNandGetQ => Sys2Proof.Machine.execSrNandGetQ s
  | .srNandGetQNot => Sys2Proof.Machine.execSrNandGetQNot s
  | .srNandReset => Sys2Proof.Machine.execSrNandReset s
  | .dLatchUpdate d enable => Sys2Proof.Machine.execDLatchUpdate d enable s
  | .dLatchGetQ => Sys2Proof.Machine.execDLatchGetQ s
  | .dLatchGetQNot => Sys2Proof.Machine.execDLatchGetQNot s
  | .dLatchReset => Sys2Proof.Machine.execDLatchReset s
  | .masterSlaveUpdate d clk => Sys2Proof.Machine.execMasterSlaveUpdate d clk s
  | .masterSlaveGetQ => Sys2Proof.Machine.execMasterSlaveGetQ s
  | .masterSlaveGetQNot => Sys2Proof.Machine.execMasterSlaveGetQNot s
  | .masterSlaveReset => Sys2Proof.Machine.execMasterSlaveReset s
  | .jkSetInputs j k => Sys2Proof.Machine.execJkSetInputs j k s
  | .jkClock => Sys2Proof.Machine.execJkClock s
  | .jkGetQ => Sys2Proof.Machine.execJkGetQ s
  | .jkGetQNot => Sys2Proof.Machine.execJkGetQNot s
  | .jkReset => Sys2Proof.Machine.execJkReset s
  | .tFlipSetInput t => Sys2Proof.Machine.execTFlipSetInput t s
  | .tFlipClock => Sys2Proof.Machine.execTFlipClock s
  | .tFlipGetQ => Sys2Proof.Machine.execTFlipGetQ s
  | .tFlipGetQNot => Sys2Proof.Machine.execTFlipGetQNot s
  | .tFlipReset => Sys2Proof.Machine.execTFlipReset s
  | .counterClock => Sys2Proof.Machine.execCounterClock s
  | .counterToggleMode => Sys2Proof.Machine.execCounterToggleMode s
  | .counterGetValue => Sys2Proof.Machine.execCounterGetValue s
  | .counterGetBits => Sys2Proof.Machine.execCounterGetBits s
  | .counterIsUpMode => Sys2Proof.Machine.execCounterIsUpMode s
  | .counterReset => Sys2Proof.Machine.execCounterReset s
  | .shiftSetDataInput v => Sys2Proof.Machine.execShiftSetDataInput v s
  | .shiftClock => Sys2Proof.Machine.execShiftClock s
  | .shiftGetSerialOut => Sys2Proof.Machine.execShiftGetSerialOut s
  | .shiftGetBits => Sys2Proof.Machine.execShiftGetBits s
  | .shiftReset => Sys2Proof.Machine.execShiftReset s
  | .cpuStep => Sys2Proof.Machine.execCpuStep s
  | .cpuReset => Sys2Proof.Machine.execCpuReset s
  | .cpuLoadProgram words startAddress => Sys2Proof.Machine.execCpuLoadProgram words startAddress s
  | .cpuSetDataInMemory address value => Sys2Proof.Machine.execCpuSetDataInMemory address value s
  | .cpuGetRegisterValue r => Sys2Proof.Machine.execCpuGetRegisterValue r s
  | .cpuGetFlagValue f => Sys2Proof.Machine.execCpuGetFlagValue f s
  | .cpuGetMemoryState => Sys2Proof.Machine.execCpuGetMemoryState s
  | .cpuIsHalted => Sys2Proof.Machine.execCpuIsHalted s
  | .cpuGetLastActionDescription => Sys2Proof.Machine.execCpuGetLastActionDescription s
  | .cpuGetLastOutput => Sys2Proof.Machine.execCpuGetLastOutput s
  | .cpuDisassemble instruction => Sys2Proof.Machine.execCpuDisassemble instruction s

end Sys2Proof.Machine
end

