-- ==== Sys2Proof/Machine/Step.lean ====
section
/-!
DEFINITION. One step of the machine: ONE CALL OF THE CALLER (R14, R18). While the caller's list holds a call, the step makes
it; with no call listed, the caller calls `cpu_core.step()`, and the step fetches, decodes and runs one CPU word (log 1).
-/

namespace Sys2Proof.Machine

def step (s : State) : Host.Outcome State Fault Refusal :=
  match s.calls with
  | [] => if s.cpu.halted then haltedStep s else exec (decodeWord (fetch s).cpu.ir) (fetch s)
  | f :: rest =>
    match decodeFrame f with
    | .ok i => exec i (s.setCalls rest)
    | .error e => .refused (refusalOf f.id e)

/-- The state with the instruction of an opcode-table row where the next step takes its instruction from: a CPU word in the
cell PC points at, with no call before it and the CPU not halted; a command id, with arguments of zeros, as the caller's
next call (log 14). -/
def State.withFetchWord (s : State) (nbits w : Nat) : State :=
  if nbits = 8 then
    { s with cpu := { s.cpu with mem := s.cpu.mem.write s.cpu.pc (BitVec.ofNat 8 w), halted := false }, calls := [] }
  else if nbits = 16 then { s with calls := zeroFrame (BitVec.ofNat 16 w) :: s.calls }
  else s

end Sys2Proof.Machine
end

