-- ==== Sys2Proof/Safety.lean ====
section
/-!
DEFINITION. What claims about the machine are stated in: sequences of operations, what a state must satisfy (the invariant of
the spec's own invariants), which operations are accessors, and what it is for one part of the state to be left alone.
-/

namespace Sys2Proof.Machine

/-- The operations one after the other, each on the state the one before it left (R14). -/
def execAll : List Instr → State → Result
  | [], s => .next s
  | i :: rest, s =>
    match exec i s with
    | .next t => execAll rest t
    | .fault r => .fault r
    | .refused r => .refused r

/-- `n` steps of the machine, stopping at the first refusal: `Host.Core.run` of the machine's core. -/
def runSteps : Nat → State → Result
  | 0, s => .next s
  | n + 1, s =>
    match step s with
    | .next t => runSteps n t
    | .fault r => .fault r
    | .refused r => .refused r

/-- The CPU's invariant: its memory is canonical (log 13) and `Z == (AC == 0)` (R51). -/
def Cpu.inv (c : Cpu) : Bool :=
  c.mem.wf && (c.z == (c.ac == 0#4))

/-- A latch whose outputs are complements (R38, R192). -/
def Latch.complementary (l : Latch) : Bit :=
  l.qn == !l.q

/-- The machine's invariant: the CPU's; the NOR latch never holds (1,1) (R36) and the NAND latch never (0,0) (R37); the D
latch and both latches of the master-slave flip-flop hold complements (R38, R192, R202). -/
def State.inv (s : State) : Bool :=
  s.cpu.inv && !(s.srNor.q && s.srNor.qn) && (s.srNand.q || s.srNand.qn) && s.dLatch.complementary &&
    s.masterSlave.master.complementary && s.masterSlave.slave.complementary

/-- The sixteen components without memory of instructions, and the CPU, are independent (R14): the circuits as one value. -/
def State.circuits (s : State) :
    FullAdder × RippleAdder × Comparator × Latch × Latch × Latch × MasterSlave × JkFlipFlop × TFlipFlop × Counter ×
      ShiftRegister :=
  (s.fullAdder, s.rippleAdder, s.comparator, s.srNor, s.srNand, s.dLatch, s.masterSlave, s.jk, s.tFlip, s.counter, s.shift)

/-- The operations that are accessors, which write no state (R15; the pure components' operations R35; `disassemble` R107):
all that read, but `getLastOutput` (R290). -/
def isAccessor : Instr → Bool
  | .fullAdderGetSum | .fullAdderGetCarryOut | .rippleAdderGetSum | .rippleAdderGetCarryOut | .comparatorGetResult
  | .mux4GetOutput .. | .mux8GetOutput .. | .decoderGetActiveOutput .. | .encoderGetOutput ..
  | .sevenSegGetSegmentsFor .. | .srNorGetQ | .srNorGetQNot | .srNandGetQ | .srNandGetQNot | .dLatchGetQ
  | .dLatchGetQNot | .masterSlaveGetQ | .masterSlaveGetQNot | .jkGetQ | .jkGetQNot | .tFlipGetQ | .tFlipGetQNot
  | .counterGetValue | .counterGetBits | .counterIsUpMode | .shiftGetSerialOut | .shiftGetBits
  | .cpuGetRegisterValue .. | .cpuGetFlagValue .. | .cpuGetMemoryState | .cpuIsHalted | .cpuGetLastActionDescription
  | .cpuDisassemble .. => true
  | .lda .. | .add .. | .sta .. | .out .. | .hlt .. | .nop0 .. | .nop5 .. | .nop6 .. | .nop7 .. | .nop8 .. | .nop9 ..
  | .nopA .. | .nopB .. | .nopC .. | .nopD .. | .nopE .. | .fullAdderUpdate .. | .fullAdderReset
  | .rippleAdderUpdate .. | .rippleAdderReset | .comparatorCompare .. | .comparatorReset | .mux4Reset | .mux8Reset
  | .decoderReset | .encoderReset | .sevenSegReset | .srNorUpdate .. | .srNorReset | .srNandUpdate .. | .srNandReset
  | .dLatchUpdate .. | .dLatchReset | .masterSlaveUpdate .. | .masterSlaveReset | .jkSetInputs .. | .jkClock
  | .jkReset | .tFlipSetInput .. | .tFlipClock | .tFlipReset | .counterClock | .counterToggleMode | .counterReset
  | .shiftSetDataInput .. | .shiftClock | .shiftReset | .cpuStep | .cpuReset | .cpuLoadProgram ..
  | .cpuSetDataInMemory .. | .cpuGetLastOutput => false

/-- The number of the component an instruction belongs to (R2, R111); the CPU's words belong to cpu_core, 17. -/
def componentOf (i : Instr) : Nat :=
  match encode i with
  | .word _ => 17
  | .call f => f.id.toNat / 256

end Sys2Proof.Machine
end

