-- ==== Sys2Proof/Certificates/Slice0/Obligations.lean ====
section
/-!
DEFINITION. The statements for the provers, from the numbered rules of spec/. A statement about an instruction gives the next
state whole (the record written out, or the record with the parts the rule leaves open named), so that it says the result,
that the instruction completes, and its frame at once. `ret` is what the operation returns (log 2), `draws` the count of free
texts (log 3); the text written to `desc` is never named: any text (R54).
-/

open Sys2Proof Sys2Proof.Machine

/-! ### Decoding and the step -/

/-- The opcode map (R103), for every operand. Model's choice, log 11: that the instruction keeps the operand bits OUT, HLT and
NOP ignore (R105), and that NOP is eleven constructors. -/
def Obligations.WordsDecodeByTheOpcodeMap : Prop :=
  ∀ opcode x : Nibble,
    (opcode = 0b0001#4 → decodeWord (opcode ++ x) = .lda x) ∧
    (opcode = 0b0010#4 → decodeWord (opcode ++ x) = .add x) ∧
    (opcode = 0b0011#4 → decodeWord (opcode ++ x) = .sta x) ∧
    (opcode = 0b0100#4 → decodeWord (opcode ++ x) = .out x) ∧
    (opcode = 0b1111#4 → decodeWord (opcode ++ x) = .hlt x) ∧
    (opcode = 0b0000#4 ∨ (5 ≤ opcode.toNat ∧ opcode.toNat ≤ 14) →
      decodeWord (opcode ++ x) ∈
        [Instr.nop0 x, .nop5 x, .nop6 x, .nop7 x, .nop8 x, .nop9 x, .nopA x, .nopB x, .nopC x, .nopD x, .nopE x])

/-- Words the spec writes out (S8, D-CPU, H7) decode to what it says they are. Model's choice: the ignored operand bits kept
and the NOP rows apart (log 11), the form of a call's arguments (log 8). -/
def Obligations.SpecSampleWordsDecode : Prop :=
  decodeWord 0x1E#8 = .lda 14#4 ∧ decodeWord 0x2F#8 = .add 15#4 ∧ decodeWord 0x3C#8 = .sta 12#4 ∧
  decodeWord 0x40#8 = .out 0#4 ∧ decodeWord 0xF7#8 = .hlt 7#4 ∧ decodeWord 0x9A#8 = .nop9 10#4 ∧
  decodeFrame { id := 0x0101#16, args := [.bit true, .bit true, .bit false] } = .ok (.fullAdderUpdate true true false) ∧
  decodeFrame { id := 0x110B#16, args := [.int 30] } = .ok (.cpuDisassemble 30)

/-- Decoding and encoding are inverse to each other: an encoding decodes to an instruction exactly when it is that
instruction's encoding, with every operand at every value. That no two encodings share an instruction is the model's choice:
the spec gives OUT, HLT and NOP many words each (R105, R108), and the model keeps the bits they ignore and has a constructor
for each NOP opcode (log 11); for a call, the list of typed arguments is the model's form (log 8). -/
def Obligations.DecodeAndEncodeAgree : Prop :=
  ∀ (e : Encoded) (i : Instr), decode e = .ok i ↔ e = encode i

/-- With no call listed and the CPU not halted, the step is `exec` of the word at PC on the state the fetch leaves:
MAR at the old PC, IR the word, PC advanced modulo 16 (R261, R262; model's choice, log 1 and log 12). -/
def Obligations.StepRunsTheDecodedWord : Prop :=
  ∀ s : State, s.calls = [] → s.cpu.halted = false →
    step s = exec (decodeWord (s.cpu.mem.read s.cpu.pc))
      { s with cpu := { s.cpu with mar := s.cpu.pc, ir := s.cpu.mem.read s.cpu.pc, pc := s.cpu.pc + 1#4 } }

/-- The caller's next call is made: `exec` of the decoded call, the call taken off the list (model's choice, log 1). -/
def Obligations.StepMakesTheNextCall : Prop :=
  ∀ (s : State) (f : Frame) (rest : List Frame) (i : Instr), s.calls = f :: rest → decodeFrame f = .ok i →
    step s = exec i { s with calls := rest }

/-- A call that can be written down completes; one that cannot is refused by name (R112, D6; model's choice, log 8). -/
def Obligations.StepRefusesExactlyIllFormedCalls : Prop :=
  ∀ (s : State) (f : Frame) (rest : List Frame), s.calls = f :: rest →
    (f.wellFormed = true → ∃ t, step s = .next t) ∧
    (signature f.id.toNat = none → step s = .refused (.unknownCommand f.id)) ∧
    (∀ kinds, signature f.id.toNat = some kinds → argsFit f.args kinds = false →
      step s = .refused (.badArguments f.id) ∨ step s = .refused (.operandLength f.id))

/-- Adder and comparator operands that are not four bits long are refused for that reason (R112, D6; log 8). -/
def Obligations.WrongOperandLengthIsRefused : Prop :=
  ∀ (s : State) (a b : List Bit) (cin : Bit) (rest : List Frame), ¬(a.length = 4 ∧ b.length = 4) →
    step { s with calls := { id := 0x0201#16, args := [.bits a, .bits b, .bit cin] } :: rest } =
      .refused (.operandLength 0x0201#16) ∧
    step { s with calls := { id := 0x0301#16, args := [.bits a, .bits b] } :: rest } =
      .refused (.operandLength 0x0301#16)

/-- The call `cpu_core.step()` and the machine's own step without a listed call are the same; and not halted, the call is
`exec` of the word at PC on the state the fetch leaves (R264, R266). -/
def Obligations.CpuStepCallRunsTheWordAtPc : Prop :=
  ∀ s : State,
    step { s with calls := [] } = exec .cpuStep { s with calls := [] } ∧
    (s.cpu.halted = false →
      exec .cpuStep s = exec (decodeWord (s.cpu.mem.read s.cpu.pc))
        { s with cpu := { s.cpu with mar := s.cpu.pc, ir := s.cpu.mem.read s.cpu.pc, pc := s.cpu.pc + 1#4 } })

/-- No operation of any component stops: every instruction, on every state, ends in a next state (R320). -/
def Obligations.EveryOperationCompletes : Prop :=
  ∀ (i : Instr) (s : State), ∃ t, exec i s = .next t

/-! ### The CPU's words: the meaning of a word is what follows its fetch (log 12) -/

/-- LDA (R270), with its encoding and its frame. -/
def Obligations.LdaLoadsTheLowNibble : Prop :=
  ∀ (operand : Nibble) (s : State),
    decodeWord (0b0001#4 ++ operand) = .lda operand ∧
    ∃ text, exec (.lda operand) s = .next { s with
      cpu := { s.cpu with
        mar := operand, ac := BitVec.ofNat 4 ((s.cpu.mem.read operand).toNat % 16),
        z := decide ((s.cpu.mem.read operand).toNat % 16 = 0), c := false, desc := text },
      ret := .none, draws := s.draws + 1 }

/-- ADD (R272): the whole 8-bit word is added, there is no carry-in, and C is whether the unmasked sum is above 15. -/
def Obligations.AddAddsTheWholeWord : Prop :=
  ∀ (operand : Nibble) (s : State),
    decodeWord (0b0010#4 ++ operand) = .add operand ∧
    ∃ text, exec (.add operand) s = .next { s with
      cpu := { s.cpu with
        mar := operand, ac := BitVec.ofNat 4 (s.cpu.ac.toNat + (s.cpu.mem.read operand).toNat),
        z := decide ((s.cpu.ac.toNat + (s.cpu.mem.read operand).toNat) % 16 = 0),
        c := decide (s.cpu.ac.toNat + (s.cpu.mem.read operand).toNat > 15), desc := text },
      ret := .none, draws := s.draws + 1 }

/-- STA (R274): the cell the operand names holds AC with a zero high nibble, which decodes as NOP (log 11: as the row of
opcode 0000); every other cell and all else but MAR, C and `desc` is as before. Over canonical memories, which every step keeps (`EveryStepKeepsTheInvariant`). -/
def Obligations.StaStoresTheAccumulator : Prop :=
  ∀ (operand : Nibble) (s : State), s.cpu.mem.wf = true →
    decodeWord (0b0011#4 ++ operand) = .sta operand ∧
    ∃ (text : String) (mem : Memory),
      exec (.sta operand) s = .next { s with
        cpu := { s.cpu with mem := mem, mar := operand, c := false, desc := text },
        ret := .none, draws := s.draws + 1 } ∧
      mem.read operand = BitVec.ofNat 8 s.cpu.ac.toNat ∧
      decodeWord (mem.read operand) = .nop0 s.cpu.ac ∧
      ∀ a : Nibble, a ≠ operand → mem.read a = s.cpu.mem.read a

/-- OUT (R276), whatever the operand bits (that the instruction keeps them is log 11) and whatever the buffer held. -/
def Obligations.OutOverwritesTheBuffer : Prop :=
  ∀ (x : Nibble) (s : State),
    decodeWord (0b0100#4 ++ x) = .out x ∧
    ∃ text, exec (.out x) s = .next { s with
      cpu := { s.cpu with out := some s.cpu.ac, c := false, desc := text }, ret := .none, draws := s.draws + 1 }

/-- HLT (R278), whatever the operand bits (that the instruction keeps them is log 11). As an instruction it sets `halted` and
clears C. As a `step()` it also leaves PC, MAR and IR as its fetch set them. And after it, through any calls of any components
but the CPU's `reset()`, the CPU stays halted with every register and flag as HLT left it, and a `step()` writes only `desc`.
(A CPU word is no call of the caller: it runs inside `step()` only.) -/
def Obligations.HltHaltsTheCpu : Prop :=
  ∀ (x : Nibble) (s : State),
    decodeWord (0b1111#4 ++ x) = .hlt x ∧
    (s.cpu.halted = false → s.cpu.mem.read s.cpu.pc = (0b1111#4 ++ x : Byte) →
      ∃ text, exec .cpuStep s = .next { s with
        cpu := { s.cpu with
          mar := s.cpu.pc, ir := (0b1111#4 ++ x : Byte), pc := s.cpu.pc + 1#4, halted := true, c := false, desc := text },
        ret := .none, draws := s.draws + 1 }) ∧
    ∃ t text, exec (.hlt x) s = .next t ∧
      t = { s with
        cpu := { s.cpu with halted := true, c := false, desc := text }, ret := .none, draws := s.draws + 1 } ∧
      ∀ later : List Instr, .cpuReset ∉ later → (∀ i ∈ later, ∃ f, encode i = .call f) →
        ∃ u text', execAll later t = .next u ∧ u.cpu.halted = true ∧ u.cpu.pc = t.cpu.pc ∧ u.cpu.ac = t.cpu.ac ∧
          u.cpu.mar = t.cpu.mar ∧ u.cpu.ir = t.cpu.ir ∧ u.cpu.z = t.cpu.z ∧ u.cpu.c = t.cpu.c ∧
          exec .cpuStep u = .next { u with
            cpu := { u.cpu with desc := text' }, ret := .none, draws := u.draws + 1 }

/-- NOP (R280), each of the eleven opcodes (a constructor for each is log 11): only C and `desc` change after the fetch. And a word whose opcode is none of the
other five is executed, not trapped: `step()` advances PC, sets MAR and IR, clears C, and changes nothing else but `desc`. -/
def Obligations.NopClearsOnlyTheCarry : Prop :=
  (∀ (x : Nibble) (s : State) (i : Instr),
    i ∈ [Instr.nop0 x, .nop5 x, .nop6 x, .nop7 x, .nop8 x, .nop9 x, .nopA x, .nopB x, .nopC x, .nopD x, .nopE x] →
    ∃ text, exec i s = .next { s with
      cpu := { s.cpu with c := false, desc := text }, ret := .none, draws := s.draws + 1 }) ∧
  ∀ s : State, s.cpu.halted = false →
    opcodeOf (s.cpu.mem.read s.cpu.pc) ∉ [0b0001#4, 0b0010#4, 0b0011#4, 0b0100#4, 0b1111#4] →
    ∃ text, exec .cpuStep s = .next { s with
      cpu := { s.cpu with
        mar := s.cpu.pc, ir := s.cpu.mem.read s.cpu.pc, pc := s.cpu.pc + 1#4, c := false, desc := text },
      ret := .none, draws := s.draws + 1 }

/-- A halted `step()` writes the status text and nothing else (R260). -/
def Obligations.HaltedStepWritesOnlyTheText : Prop :=
  ∀ s : State, s.cpu.halted = true →
    ∃ text, exec .cpuStep s = .next { s with
      cpu := { s.cpu with desc := text }, ret := .none, draws := s.draws + 1 }

/-- The flags after a non-halted step (R50): C is ADD's carry and clear after every other opcode; Z is `AC == 0` after LDA
and ADD and as before after every other opcode. -/
def Obligations.EveryStepWritesTheFlags : Prop :=
  ∀ s : State, s.cpu.halted = false →
    ∃ t, exec .cpuStep s = .next t ∧
      (opcodeOf (s.cpu.mem.read s.cpu.pc) = 0b0010#4 →
        t.cpu.c = decide (s.cpu.ac.toNat +
          (s.cpu.mem.read (operandOf (s.cpu.mem.read s.cpu.pc))).toNat > 15) ∧ t.cpu.z = (t.cpu.ac == 0#4)) ∧
      (opcodeOf (s.cpu.mem.read s.cpu.pc) = 0b0001#4 → t.cpu.c = false ∧ t.cpu.z = (t.cpu.ac == 0#4)) ∧
      (opcodeOf (s.cpu.mem.read s.cpu.pc) ∉ [0b0001#4, 0b0010#4] → t.cpu.c = false ∧ t.cpu.z = s.cpu.z)

/-- PC, IR, MAR and the circuits after a non-halted step, whatever the word: control flows in address order modulo 16, IR
holds the word fetched, MAR the last address accessed (R46, R48, R49, R282). -/
def Obligations.EveryStepAdvancesInAddressOrder : Prop :=
  ∀ s : State, s.cpu.halted = false →
    ∃ t, exec .cpuStep s = .next t ∧
      t.cpu.pc.toNat = (s.cpu.pc.toNat + 1) % 16 ∧
      t.cpu.ir = s.cpu.mem.read s.cpu.pc ∧
      t.cpu.mar = (if opcodeOf (s.cpu.mem.read s.cpu.pc) ∈ [0b0001#4, 0b0010#4, 0b0011#4]
        then operandOf (s.cpu.mem.read s.cpu.pc) else s.cpu.pc) ∧
      t.circuits = s.circuits ∧ t.calls = s.calls ∧ t.ret = .none

/-- A store is seen by the very next fetch (R94): STA to the next address turns the next instruction into a NOP, whatever
stood there. -/
def Obligations.NextFetchSeesTheStore : Prop :=
  ∀ s : State, s.calls = [] → s.cpu.halted = false → s.cpu.mem.wf = true →
    s.cpu.mem.read s.cpu.pc = (0b0011#4 ++ (s.cpu.pc + 1#4) : Byte) →
    ∃ t u text, step s = .next t ∧ step t = .next u ∧
      u = { t with
        cpu := { t.cpu with
          pc := s.cpu.pc + 2#4, mar := s.cpu.pc + 1#4, ir := BitVec.ofNat 8 s.cpu.ac.toNat, c := false, desc := text },
        ret := .none, draws := s.draws + 2 }

/-- The halting law (R283): without calls of the host, a CPU that is not halted halts within its next sixteen steps or
never does. -/
def Obligations.CpuHaltsWithinSixteenStepsOrNever : Prop :=
  ∀ s : State, s.calls = [] → s.cpu.halted = false → s.cpu.mem.wf = true →
    (∃ n t, n ≤ 16 ∧ runSteps n s = .next t ∧ t.cpu.halted = true) ∨
    (∀ n, ∃ t, runSteps n s = .next t ∧ t.cpu.halted = false)

/-! ### The invariant -/

/-- Every step keeps the invariant, from every state that meets it: the memory canonical, `Z == (AC == 0)` (R51), no latch in
a pair it never reaches (R36, R37), the D latches complementary (R192, R202). -/
def Obligations.EveryStepKeepsTheInvariant : Prop :=
  ∀ s t : State, s.inv = true → step s = .next t → t.inv = true

def Obligations.ResetMeetsTheInvariant : Prop :=
  State.reset.inv = true

/-! ### The calls of the CPU -/

/-- `reset()` of the CPU: every register and cell 0, Z set, C clear, not halted, the buffer empty, the text any text; the
circuits, the listed calls as before. -/
def Obligations.CpuResetRestoresTheInitialState : Prop :=
  ∀ s : State, ∃ (text : String) (mem : Memory),
    exec .cpuReset s = .next { s with
      cpu := { mem := mem, pc := 0#4, ac := 0#4, mar := 0#4, ir := 0x00#8, z := true, c := false, halted := false,
               out := none, desc := text },
      ret := .none, draws := s.draws + 1 } ∧
    ∀ a : Nibble, mem.read a = 0x00#8

/-- `setDataInMemory`: the cell at an address from 0 to 15 takes the value modulo 256 (of a value that is not negative,
log 7); no other cell and nothing else changes, and with an address outside no cell does. -/
def Obligations.SetDataWritesAtMostOneCell : Prop :=
  ∀ (s : State) (address value : Int), s.cpu.mem.wf = true →
    ∃ mem : Memory, exec (.cpuSetDataInMemory address value) s = .next { s with
        cpu := { s.cpu with mem := mem }, ret := .none } ∧
      ∀ a : Nibble,
        ((a.toNat : Int) = address → 0 ≤ value → (mem.read a).toNat = value.toNat % 256) ∧
        ((a.toNat : Int) ≠ address → mem.read a = s.cpu.mem.read a)

/-- `loadProgram`: word k goes to `startAddress + k` modulo 256 if that is an address from 0 to 15, and is dropped
otherwise (words that are not negative, log 7); every other cell and everything else is as before. -/
def Obligations.LoadProgramWritesTheWordsThatFit : Prop :=
  ∀ (s : State) (words : List Int) (startAddress : Int), s.cpu.mem.wf = true →
    ∃ mem : Memory, exec (.cpuLoadProgram words startAddress) s = .next { s with
        cpu := { s.cpu with mem := mem }, ret := .none } ∧
      ∀ a : Nibble,
        (∀ (k : Nat) (w : Int), words[k]? = some w → (a.toNat : Int) = startAddress + k → 0 ≤ w →
          (mem.read a).toNat = w.toNat % 256) ∧
        ((∀ k : Nat, k < words.length → (a.toNat : Int) ≠ startAddress + k) → mem.read a = s.cpu.mem.read a)

/-- `getRegisterValue`, `getFlagValue`, `isHalted`, `getLastActionDescription` return the field, within its width, and write
nothing (R285, R286, R288, R289). -/
def Obligations.CpuAccessorsReturnTheirField : Prop :=
  ∀ s : State,
    (exec (.cpuGetRegisterValue .pc) s = .next { s with ret := .value s.cpu.pc.toNat } ∧ s.cpu.pc.toNat ≤ 15) ∧
    (exec (.cpuGetRegisterValue .ac) s = .next { s with ret := .value s.cpu.ac.toNat } ∧ s.cpu.ac.toNat ≤ 15) ∧
    (exec (.cpuGetRegisterValue .ir) s = .next { s with ret := .value s.cpu.ir.toNat } ∧ s.cpu.ir.toNat ≤ 255) ∧
    (exec (.cpuGetRegisterValue .mar) s = .next { s with ret := .value s.cpu.mar.toNat } ∧ s.cpu.mar.toNat ≤ 15) ∧
    exec (.cpuGetFlagValue .z) s = .next { s with ret := .bit s.cpu.z } ∧
    exec (.cpuGetFlagValue .c) s = .next { s with ret := .bit s.cpu.c } ∧
    exec .cpuIsHalted s = .next { s with ret := .bit s.cpu.halted } ∧
    exec .cpuGetLastActionDescription s = .next { s with ret := .text s.cpu.desc }

/-- `getMemoryState` returns the sixteen cells and writes nothing (R287). -/
def Obligations.GetMemoryStateCopiesTheCells : Prop :=
  ∀ s : State, ∃ cells : List Byte,
    exec .cpuGetMemoryState s = .next { s with ret := .memory cells } ∧ cells.length = 16 ∧
    ∀ a : Nibble, cells[a.toNat]? = some (s.cpu.mem.read a)

/-- `getLastOutput` returns the buffer and empties it (R290); after an OUT, two calls return AC and then the empty marker. -/
def Obligations.GetLastOutputDrainsTheBuffer : Prop :=
  ∀ s : State,
    exec .cpuGetLastOutput s = .next { s with cpu := { s.cpu with out := none }, ret := .output s.cpu.out } ∧
    ∀ x : Nibble, ∃ t u v, exec (.out x) s = .next t ∧ exec .cpuGetLastOutput t = .next u ∧
      u.ret = .output (some s.cpu.ac) ∧ exec .cpuGetLastOutput u = .next v ∧ v.ret = .output none

/-- `disassemble` completes for every integer and writes nothing; of one that is not negative its mnemonic is that of the
opcode map for bits 7:4 of the value modulo 256 (R107, D28). The text beside it is any text. -/
def Obligations.DisassembleNamesTheMnemonic : Prop :=
  ∀ (s : State) (v : Int), ∃ (m : Mnemonic) (text : String),
    exec (.cpuDisassemble v) s = .next { s with ret := .disassembly m text } ∧
    (0 ≤ v →
      (m = .lda ↔ v.toNat / 16 % 16 = 1) ∧ (m = .add ↔ v.toNat / 16 % 16 = 2) ∧ (m = .sta ↔ v.toNat / 16 % 16 = 3) ∧
      (m = .out ↔ v.toNat / 16 % 16 = 4) ∧ (m = .hlt ↔ v.toNat / 16 % 16 = 15) ∧
      (m = .nop ↔ v.toNat / 16 % 16 = 0 ∨ (5 ≤ v.toNat / 16 % 16 ∧ v.toNat / 16 % 16 ≤ 14)))

/-! ### All components -/

/-- An accessor writes no state and returns the same value twice in a row; `getLastOutput` is the one exception (R15). -/
def Obligations.AccessorsWriteNothing : Prop :=
  (∀ (i : Instr) (s : State), isAccessor i = true →
    ∃ r, exec i s = .next { s with ret := r } ∧ exec i { s with ret := r } = .next { s with ret := r }) ∧
  ∃ s t u, exec .cpuGetLastOutput s = .next t ∧ exec .cpuGetLastOutput t = .next u ∧ t.ret ≠ u.ret

/-- Operations on different components do not interact (R14): an operation leaves the state of every component but its own
as it was (for the CPU: every register, flag, cell and the text), and none touches the caller's list. -/
def Obligations.ComponentsDoNotInteract : Prop :=
  ∀ (i : Instr) (s t : State), exec i s = .next t →
    (componentOf i ≠ 1 → t.fullAdder = s.fullAdder) ∧ (componentOf i ≠ 2 → t.rippleAdder = s.rippleAdder) ∧
    (componentOf i ≠ 3 → t.comparator = s.comparator) ∧ (componentOf i ≠ 9 → t.srNor = s.srNor) ∧
    (componentOf i ≠ 10 → t.srNand = s.srNand) ∧ (componentOf i ≠ 11 → t.dLatch = s.dLatch) ∧
    (componentOf i ≠ 12 → t.masterSlave = s.masterSlave) ∧ (componentOf i ≠ 13 → t.jk = s.jk) ∧
    (componentOf i ≠ 14 → t.tFlip = s.tFlip) ∧ (componentOf i ≠ 15 → t.counter = s.counter) ∧
    (componentOf i ≠ 16 → t.shift = s.shift) ∧ (componentOf i ≠ 17 → t.cpu = s.cpu) ∧ t.calls = s.calls

/-- `reset()` of the eleven circuits that hold state: the component alone, at the values of R351 to R362 (but for the NOR
latch's these are the spec's decisions D4 and D11 to D17, log 9); of the five that hold none: no effect (R354); and the
values are those the machine is built with (R30, R350). -/
def Obligations.ResetRestoresEachCircuit : Prop :=
  ∀ s : State,
    exec .fullAdderReset s = .next { s with fullAdder := ⟨false, false⟩, ret := .none } ∧
    exec .rippleAdderReset s = .next { s with
      rippleAdder := ⟨⟨⟨false, false⟩, ⟨false, false⟩, ⟨false, false⟩, ⟨false, false⟩⟩⟩, ret := .none } ∧
    exec .comparatorReset s = .next { s with comparator := ⟨.equal⟩, ret := .none } ∧
    exec .srNorReset s = .next { s with srNor := ⟨false, true⟩, ret := .none } ∧
    exec .srNandReset s = .next { s with srNand := ⟨false, true⟩, ret := .none } ∧
    exec .dLatchReset s = .next { s with dLatch := ⟨false, true⟩, ret := .none } ∧
    exec .masterSlaveReset s = .next { s with masterSlave := ⟨⟨false, true⟩, ⟨false, true⟩⟩, ret := .none } ∧
    exec .jkReset s = .next { s with jk := ⟨false, false, false⟩, ret := .none } ∧
    exec .tFlipReset s = .next { s with tFlip := ⟨false, false⟩, ret := .none } ∧
    exec .counterReset s = .next { s with
      counter := ⟨⟨⟨false, false⟩, ⟨false, false⟩, ⟨false, false⟩, ⟨false, false⟩⟩, true⟩, ret := .none } ∧
    exec .shiftReset s = .next { s with shift := ⟨⟨false, false, false, false⟩, false⟩, ret := .none } ∧
    exec .mux4Reset s = .next { s with ret := .none } ∧ exec .mux8Reset s = .next { s with ret := .none } ∧
    exec .decoderReset s = .next { s with ret := .none } ∧ exec .encoderReset s = .next { s with ret := .none } ∧
    exec .sevenSegReset s = .next { s with ret := .none } ∧
    State.reset.circuits =
      (⟨false, false⟩, ⟨⟨⟨false, false⟩, ⟨false, false⟩, ⟨false, false⟩, ⟨false, false⟩⟩⟩, ⟨.equal⟩, ⟨false, true⟩,
        ⟨false, true⟩, ⟨false, true⟩, ⟨⟨false, true⟩, ⟨false, true⟩⟩, ⟨false, false, false⟩, ⟨false, false⟩,
        ⟨⟨⟨false, false⟩, ⟨false, false⟩, ⟨false, false⟩, ⟨false, false⟩⟩, true⟩, ⟨⟨false, false, false, false⟩, false⟩)

/-! ### Combinational components -/

/-- full_adder `update` (R130, R133). -/
def Obligations.FullAdderAddsThreeBits : Prop :=
  ∀ (a b cin : Bit) (s : State), ∃ fa : FullAdder,
    exec (.fullAdderUpdate a b cin) s = .next { s with fullAdder := fa, ret := .none } ∧
    fa.sum = ((a ^^ b) ^^ cin) ∧ fa.cout = ((a && b) || (cin && (a ^^ b))) ∧
    (fa.cout = true ↔ 2 ≤ a.toNat + b.toNat + cin.toNat) ∧
    2 * fa.cout.toNat + fa.sum.toNat = a.toNat + b.toNat + cin.toNat

/-- ripple_carry_adder_4bit `update` (R138), with the intermediate carries (R139): after it the low i+1 sum bits and the
carry out of stage i are the sum of the low i+1 bits of the operands and the carry in. -/
def Obligations.RippleAdderAddsFourBits : Prop :=
  ∀ (a b : Quad Bit) (cin : Bit) (s : State), ∃ f0 f1 f2 f3 : FullAdder,
    exec (.rippleAdderUpdate a b cin) s = .next { s with rippleAdder := ⟨⟨f0, f1, f2, f3⟩⟩, ret := .none } ∧
    2 * f0.cout.toNat + f0.sum.toNat = a.e0.toNat + b.e0.toNat + cin.toNat ∧
    4 * f1.cout.toNat + (f0.sum.toNat + 2 * f1.sum.toNat) =
      (a.e0.toNat + 2 * a.e1.toNat) + (b.e0.toNat + 2 * b.e1.toNat) + cin.toNat ∧
    8 * f2.cout.toNat + (f0.sum.toNat + 2 * f1.sum.toNat + 4 * f2.sum.toNat) =
      (a.e0.toNat + 2 * a.e1.toNat + 4 * a.e2.toNat) + (b.e0.toNat + 2 * b.e1.toNat + 4 * b.e2.toNat) + cin.toNat ∧
    16 * f3.cout.toNat + quadValue ⟨f0.sum, f1.sum, f2.sum, f3.sum⟩ = quadValue a + quadValue b + cin.toNat

/-- The cached results are returned and nothing is written: the full adder's, the ripple adder's (element 0 the least
significant, the carry of stage 3), the comparator's (R131, R132, R136, R137, R141). -/
def Obligations.CachedResultsAreReturned : Prop :=
  ∀ s : State,
    exec .fullAdderGetSum s = .next { s with ret := .bit s.fullAdder.sum } ∧
    exec .fullAdderGetCarryOut s = .next { s with ret := .bit s.fullAdder.cout } ∧
    exec .rippleAdderGetSum s = .next { s with
      ret := .bits [s.rippleAdder.fa.e0.sum, s.rippleAdder.fa.e1.sum, s.rippleAdder.fa.e2.sum, s.rippleAdder.fa.e3.sum] } ∧
    exec .rippleAdderGetCarryOut s = .next { s with ret := .bit s.rippleAdder.fa.e3.cout } ∧
    exec .comparatorGetResult s = .next { s with ret := .ordering s.comparator.result }

/-- magnitude_comparator_4bit `compare` orders the values (R142), caches the outcome and returns it (R140, D5). -/
def Obligations.CompareOrdersTheValues : Prop :=
  ∀ (a b : Quad Bit) (s : State), ∃ o : Ordering3,
    exec (.comparatorCompare a b) s = .next { s with comparator := ⟨o⟩, ret := .ordering o } ∧
    (o = .greater ↔ quadValue a > quadValue b) ∧ (o = .less ↔ quadValue a < quadValue b) ∧
    (o = .equal ↔ quadValue a = quadValue b)

/-- The multiplexers select the data bit whose index the select word is, its first bit the most significant (R144, R145). -/
def Obligations.MuxSelectsTheIndexedBit : Prop :=
  (∀ (d0 d1 d2 d3 s1 s0 b : Bit) (s : State),
    [d0, d1, d2, d3][2 * s1.toNat + s0.toNat]? = some b →
    exec (.mux4GetOutput [d0, d1, d2, d3] [s1, s0]) s = .next { s with ret := .bit b }) ∧
  (∀ (d0 d1 d2 d3 d4 d5 d6 d7 s2 s1 s0 b : Bit) (s : State),
    [d0, d1, d2, d3, d4, d5, d6, d7][4 * s2.toNat + 2 * s1.toNat + s0.toNat]? = some b →
    exec (.mux8GetOutput [d0, d1, d2, d3, d4, d5, d6, d7] [s2, s1, s0]) s = .next { s with ret := .bit b })

/-- A multiplexer call whose data or select list is not of the intended length returns 0 (R146, D6). -/
def Obligations.MuxOfWrongLengthReturnsZero : Prop :=
  ∀ (data select : List Bit) (s : State),
    (¬(data.length = 4 ∧ select.length = 2) →
      exec (.mux4GetOutput data select) s = .next { s with ret := .bit false }) ∧
    (¬(data.length = 8 ∧ select.length = 3) →
      exec (.mux8GetOutput data select) s = .next { s with ret := .bit false })

/-- decoder_3to8 (R148): none when disabled, else the one line of the address. -/
def Obligations.DecoderActivatesTheAddressedLine : Prop :=
  ∀ (enable a2 a1 a0 : Bit) (s : State), ∃ l : Option (Fin 8),
    exec (.decoderGetActiveOutput enable a2 a1 a0) s = .next { s with ret := .line l } ∧
    (enable = false → l = none) ∧
    (enable = true → ∃ k : Fin 8, l = some k ∧ k.val = 4 * a2.toNat + 2 * a1.toNat + a0.toNat)

/-- encoder_8to3 (R151): the index in binary, high bit first; all 0 when disabled or outside 0 to 7. -/
def Obligations.EncoderCodesTheIndex : Prop :=
  ∀ (enable : Bit) (activeIndex : Int) (s : State), ∃ y2 y1 y0 : Bit,
    exec (.encoderGetOutput enable activeIndex) s = .next { s with ret := .bits [y2, y1, y0] } ∧
    (enable = true ∧ 0 ≤ activeIndex ∧ activeIndex ≤ 7 →
      (4 * y2.toNat + 2 * y1.toNat + y0.toNat : Nat) = activeIndex) ∧
    (¬(enable = true ∧ 0 ≤ activeIndex ∧ activeIndex ≤ 7) → y2 = false ∧ y1 = false ∧ y0 = false)

/-- Encoding the decoder's result gives back the address (R152). -/
def Obligations.EncoderInvertsDecoder : Prop :=
  ∀ (a2 a1 a0 : Bit) (s : State), ∃ (k : Fin 8) (t u : State),
    exec (.decoderGetActiveOutput true a2 a1 a0) s = .next t ∧ t.ret = .line (some k) ∧
    exec (.encoderGetOutput true k.val) t = .next u ∧ u.ret = .bits [a2, a1, a0]

/-- bcd_to_7seg (R155): the table's seven flags for 0 to 15, whatever the table; all off outside. -/
def Obligations.SevenSegmentLooksUpTheTable : Prop :=
  ∀ (n : Int) (s : State), ∃ flags : List Bit,
    exec (.sevenSegGetSegmentsFor n) s = .next { s with ret := .bits flags } ∧ flags.length = 7 ∧
    (∀ k : Fin 16, n = k.val → flags = segmentList (Config.segTable k)) ∧
    (n < 0 ∨ 15 < n → ∀ b ∈ flags, b = false)

/-! ### Latches -/

/-- sr_latch_nor `update` (R180), and the two sequences of R183. -/
def Obligations.SrNorFollowsItsTable : Prop :=
  ∀ s : State,
    exec (.srNorUpdate true true) s = .next { s with srNor := ⟨false, false⟩, ret := .none } ∧
    exec (.srNorUpdate true false) s = .next { s with srNor := ⟨true, false⟩, ret := .none } ∧
    exec (.srNorUpdate false true) s = .next { s with srNor := ⟨false, true⟩, ret := .none } ∧
    exec (.srNorUpdate false false) s = .next { s with ret := .none } ∧
    execAll [.srNorUpdate true false, .srNorUpdate false false] s =
      .next { s with srNor := ⟨true, false⟩, ret := .none } ∧
    execAll [.srNorUpdate true true, .srNorUpdate false false] s =
      .next { s with srNor := ⟨false, false⟩, ret := .none }

/-- sr_latch_nand `update` (R184; the order of its arguments is the spec's decision D11). -/
def Obligations.SrNandFollowsItsTable : Prop :=
  ∀ s : State,
    exec (.srNandUpdate false false) s = .next { s with srNand := ⟨true, true⟩, ret := .none } ∧
    exec (.srNandUpdate false true) s = .next { s with srNand := ⟨true, false⟩, ret := .none } ∧
    exec (.srNandUpdate true false) s = .next { s with srNand := ⟨false, true⟩, ret := .none } ∧
    exec (.srNandUpdate true true) s = .next { s with ret := .none } ∧
    execAll [.srNandUpdate false false, .srNandUpdate true true] s =
      .next { s with srNand := ⟨true, true⟩, ret := .none }

/-- The latches are mirror images (R187): on complemented inputs the NAND latch does to the same stored pair what the NOR
latch does, for set, reset and hold; in the invalid state the two hold complementary pairs. -/
def Obligations.NandMirrorsNor : Prop :=
  ∀ (set rst : Bit) (s : State), s.srNor = s.srNand →
    ∃ t u, exec (.srNorUpdate set rst) s = .next t ∧ exec (.srNandUpdate (!set) (!rst)) s = .next u ∧
      ((set && rst) = false → u.srNand = t.srNor) ∧
      ((set && rst) = true → u.srNand.q = !t.srNor.q ∧ u.srNand.qn = !t.srNor.qn)

/-- d_latch_level_sensitive `update` (R190): transparent when enabled, on every call; held otherwise. -/
def Obligations.DLatchTracksWhenEnabled : Prop :=
  ∀ (d : Bit) (s : State),
    exec (.dLatchUpdate d true) s = .next { s with dLatch := ⟨d, !d⟩, ret := .none } ∧
    exec (.dLatchUpdate d false) s = .next { s with ret := .none }

/-- The outputs of the latches and the master-slave flip-flop are returned as stored and nothing is written; under the
invariant the D latch's and the flip-flop's Q' is the complement of Q. -/
def Obligations.LatchOutputsAreReturned : Prop :=
  ∀ s : State,
    exec .srNorGetQ s = .next { s with ret := .bit s.srNor.q } ∧
    exec .srNorGetQNot s = .next { s with ret := .bit s.srNor.qn } ∧
    exec .srNandGetQ s = .next { s with ret := .bit s.srNand.q } ∧
    exec .srNandGetQNot s = .next { s with ret := .bit s.srNand.qn } ∧
    exec .dLatchGetQ s = .next { s with ret := .bit s.dLatch.q } ∧
    exec .dLatchGetQNot s = .next { s with ret := .bit s.dLatch.qn } ∧
    exec .masterSlaveGetQ s = .next { s with ret := .bit s.masterSlave.slave.q } ∧
    exec .masterSlaveGetQNot s = .next { s with ret := .bit s.masterSlave.slave.qn } ∧
    (s.inv = true → s.dLatch.qn = !s.dLatch.q ∧ s.masterSlave.slave.qn = !s.masterSlave.slave.q)

/-! ### Flip-flops -/

/-- d_flipflop_master_slave `update` (R200): with the clock high the master takes d and the slave holds; low, the master
holds and the slave copies the master's Q. -/
def Obligations.MasterSlaveFollowsTheClockLevel : Prop :=
  ∀ (d : Bit) (s : State),
    exec (.masterSlaveUpdate d true) s = .next { s with
      masterSlave := ⟨⟨d, !d⟩, s.masterSlave.slave⟩, ret := .none } ∧
    exec (.masterSlaveUpdate d false) s = .next { s with
      masterSlave := ⟨s.masterSlave.master, ⟨s.masterSlave.master.q, !s.masterSlave.master.q⟩⟩, ret := .none }

/-- The falling-edge law (R203), over every sequence of calls after reset and one more call: the output changes only when that
call has clk = 0 and the one before it had clk = 1, and is then the d of that one before. -/
def Obligations.MasterSlaveChangesOnFallingEdgeOnly : Prop :=
  ∀ (s : State) (earlier : List (Bit × Bit)) (d clk : Bit), s.masterSlave = ⟨⟨false, true⟩, ⟨false, true⟩⟩ →
    ∃ t u, execAll (earlier.map fun p => Instr.masterSlaveUpdate p.1 p.2) s = .next t ∧
      exec (.masterSlaveUpdate d clk) t = .next u ∧
      u.masterSlave.slave.q =
        match clk, earlier.getLast? with
        | false, some (d', true) => d'
        | _, _ => t.masterSlave.slave.q

/-- jk_flipflop_edge_triggered `setInputs` stages only (R210). -/
def Obligations.JkSetInputsStagesOnly : Prop :=
  ∀ (j k : Bit) (s : State),
    exec (.jkSetInputs j k) s = .next { s with jk := ⟨s.jk.q, j, k⟩, ret := .none }

/-- jk_flipflop_edge_triggered `clock` (R211) by the characteristic law (R214), after any staging and from any Q; the staged
inputs persist (the spec's decision D14). -/
def Obligations.JkClockFollowsTheCharacteristicLaw : Prop :=
  (∀ s : State, exec .jkClock s = .next { s with
    jk := { s.jk with q := (s.jk.j && !s.jk.q) || (!s.jk.k && s.jk.q) }, ret := .none }) ∧
  ∀ (j k : Bit) (s : State), ∃ t, execAll [.jkSetInputs j k, .jkClock] s = .next t ∧ t.jk.j = j ∧ t.jk.k = k ∧
    ((j, k) = (false, false) → t.jk.q = s.jk.q) ∧ ((j, k) = (false, true) → t.jk.q = false) ∧
    ((j, k) = (true, false) → t.jk.q = true) ∧ ((j, k) = (true, true) → t.jk.q = !s.jk.q)

/-- t_flipflop_edge_triggered: `setInput` stages only, `clock` toggles Q exactly when T is 1; T persists (R220, R221, D15). -/
def Obligations.TFlipFlopTogglesWhenStaged : Prop :=
  ∀ (t : Bit) (s : State),
    exec (.tFlipSetInput t) s = .next { s with tFlip := ⟨s.tFlip.q, t⟩, ret := .none } ∧
    exec .tFlipClock s = .next { s with tFlip := ⟨s.tFlip.q ^^ s.tFlip.t, s.tFlip.t⟩, ret := .none }

/-- The outputs of the JK and T flip-flops: Q, and its complement as Q' (R212, R213, R222, R223, D14, D15). -/
def Obligations.FlipFlopOutputsAreReturned : Prop :=
  ∀ s : State,
    exec .jkGetQ s = .next { s with ret := .bit s.jk.q } ∧ exec .jkGetQNot s = .next { s with ret := .bit (!s.jk.q) } ∧
    exec .tFlipGetQ s = .next { s with ret := .bit s.tFlip.q } ∧
    exec .tFlipGetQNot s = .next { s with ret := .bit (!s.tFlip.q) }

/-! ### Composite circuits -/

/-- counter_4bit_sync_updown `clock`: the staged toggle inputs are those of R230, from the pre-clock bits, and the value goes
up or down by one modulo 16 (R237, R238); the mode is not written. -/
def Obligations.CounterClockCountsByOne : Prop :=
  ∀ s : State, ∃ c : Counter, exec .counterClock s = .next { s with counter := c, ret := .none } ∧ c.up = s.counter.up ∧
    (s.counter.up = true → quadValue (counterBits c) = (quadValue (counterBits s.counter) + 1) % 16) ∧
    (s.counter.up = false → quadValue (counterBits c) = (quadValue (counterBits s.counter) + 15) % 16) ∧
    c.ff.e0.t = true ∧ c.ff.e1.t = (s.counter.ff.e0.q == s.counter.up) ∧
    c.ff.e2.t = ((s.counter.ff.e0.q == s.counter.up) && (s.counter.ff.e1.q == s.counter.up)) ∧
    c.ff.e3.t = ((s.counter.ff.e0.q == s.counter.up) && (s.counter.ff.e1.q == s.counter.up) &&
      (s.counter.ff.e2.q == s.counter.up))

/-- Any number of clocks in one mode, from any value: the count goes round modulo 16 (R237, R238). -/
def Obligations.CounterClocksGoRoundModulo16 : Prop :=
  ∀ (n : Nat) (s : State), ∃ t, execAll (List.replicate n Instr.counterClock) s = .next t ∧
    t.counter.up = s.counter.up ∧
    (s.counter.up = true → quadValue (counterBits t.counter) = (quadValue (counterBits s.counter) + n) % 16) ∧
    (s.counter.up = false → quadValue (counterBits t.counter) = (quadValue (counterBits s.counter) + 15 * n) % 16)

/-- counter_4bit_sync_updown: `toggleMode` flips the mode alone; the accessors return the value, the bits (element 0 the
least significant) and the mode (R233 to R236, D3, D16). -/
def Obligations.CounterModeAndAccessors : Prop :=
  ∀ s : State,
    exec .counterToggleMode s = .next { s with counter := { s.counter with up := !s.counter.up }, ret := .none } ∧
    exec .counterGetValue s = .next { s with
      ret := .value (s.counter.ff.e0.q.toNat + 2 * s.counter.ff.e1.q.toNat + 4 * s.counter.ff.e2.q.toNat +
        8 * s.counter.ff.e3.q.toNat) } ∧
    exec .counterGetBits s = .next { s with
      ret := .bits [s.counter.ff.e0.q, s.counter.ff.e1.q, s.counter.ff.e2.q, s.counter.ff.e3.q] } ∧
    exec .counterIsUpMode s = .next { s with ret := .bit s.counter.up }

/-- shift_register_4bit_serial `clock` (R241): every right-hand side is the pre-clock value, the old `bits[3]` is lost. -/
def Obligations.ShiftClockMovesEveryBit : Prop :=
  ∀ s : State, exec .shiftClock s = .next { s with
    shift := ⟨⟨s.shift.dataIn, s.shift.bits.e0, s.shift.bits.e1, s.shift.bits.e2⟩, s.shift.dataIn⟩, ret := .none }

/-- shift_register_4bit_serial: `setDataInput` stages only (R240); the accessors return `bits[3]` and the bits, `bits[0]`
first (R242, R243, D17). -/
def Obligations.ShiftStagingAndAccessors : Prop :=
  ∀ (v : Bit) (s : State),
    exec (.shiftSetDataInput v) s = .next { s with shift := ⟨s.shift.bits, v⟩, ret := .none } ∧
    exec .shiftGetSerialOut s = .next { s with ret := .bit s.shift.bits.e3 } ∧
    exec .shiftGetBits s = .next { s with
      ret := .bits [s.shift.bits.e0, s.shift.bits.e1, s.shift.bits.e2, s.shift.bits.e3] }

/-- The serial law (R244): the last four bits staged and clocked in are the register, and with more of them before, too: the
bit at the serial output is the fourth from the last. -/
def Obligations.ShiftRegisterHoldsTheLastFourBits : Prop :=
  ∀ (s : State) (earlier : List Bit) (x1 x2 x3 x4 : Bit), ∃ t,
    execAll ((earlier ++ [x1, x2, x3, x4]).flatMap fun x => [Instr.shiftSetDataInput x, Instr.shiftClock]) s = .next t ∧
    t.shift.bits = ⟨x4, x3, x2, x1⟩ ∧ t.circuits = { s with shift := t.shift }.circuits ∧ t.cpu = s.cpu ∧
    ∃ u, exec .shiftGetSerialOut t = .next u ∧ u.ret = .bit x1
end

