-- ==== Sys2Proof/Laws/Circuits.lean ====
section
/-! SUPPORT. The circuits' shared operations: what each can do, said once. -/

namespace Sys2Proof.Machine

/-- A stage's outputs are the two bits of the sum of its inputs (R133). -/
theorem addBits_value (a b cin : Bit) :
    2 * (addBits a b cin).cout.toNat + (addBits a b cin).sum.toNat = a.toNat + b.toNat + cin.toNat := by
  revert a b cin; decide

theorem quadValue_lt (x : Quad Bit) : quadValue x < 16 := by
  obtain ⟨a, b, c, d⟩ := x
  revert a b c d; decide

/-- The four stages as one adder (R135): each stage's value equation, added up. -/
theorem rippleAdd_value (a b : Quad Bit) (cin : Bit) :
    16 * (rippleAdd a b cin).fa.e3.cout.toNat + quadValue (rippleSum (rippleAdd a b cin)) =
      quadValue a + quadValue b + cin.toNat := by
  have h0 := addBits_value a.e0 b.e0 cin
  have h1 := addBits_value a.e1 b.e1 (addBits a.e0 b.e0 cin).cout
  have h2 := addBits_value a.e2 b.e2 (addBits a.e1 b.e1 (addBits a.e0 b.e0 cin).cout).cout
  have h3 := addBits_value a.e3 b.e3 (addBits a.e2 b.e2 (addBits a.e1 b.e1 (addBits a.e0 b.e0 cin).cout).cout).cout
  simp only [rippleAdd, rippleSum, quadValue]
  omega

/-- The scan finds the order of the values (R142): it holds of one pair put before a shorter scan. -/
theorem compareScan_cons (x y : Bit) (rest : List (Bit × Bit)) :
    compareScan ((x, y) :: rest) = if x = y then compareScan rest else if x then .greater else .less := by
  cases x <;> cases y <;> simp [compareScan]

/-- The NOR latch goes only to states it can hold (R36). -/
theorem norLatch_legal {l : Latch} (h : (l.q && l.qn) = false) (set rst : Bit) :
    ((norLatch set rst l).q && (norLatch set rst l).qn) = false := by
  cases set <;> cases rst <;> simp_all [norLatch]

/-- The NAND latch goes only to states it can hold (R37). -/
theorem nandLatch_legal {l : Latch} (h : (l.q || l.qn) = true) (set rst : Bit) :
    ((nandLatch set rst l).q || (nandLatch set rst l).qn) = true := by
  cases set <;> cases rst <;> simp_all [nandLatch]

/-- The D latch keeps its outputs complementary (R192). -/
theorem gateLatch_complementary {l : Latch} (h : l.complementary = true) (d enable : Bit) :
    (gateLatch d enable l).complementary = true := by
  cases enable <;> simp_all [gateLatch, Latch.complementary]

theorem masterSlaveUpdate_complementary {m : MasterSlave} (h : m.master.complementary = true)
    (h' : m.slave.complementary = true) (d clk : Bit) :
    (masterSlaveUpdate d clk m).master.complementary = true ∧ (masterSlaveUpdate d clk m).slave.complementary = true :=
  ⟨gateLatch_complementary h d clk, gateLatch_complementary h' _ _⟩

/-- With the clock high the master follows and the slave holds; low, the other way round (R200). -/
theorem masterSlaveUpdate_high (d : Bit) (m : MasterSlave) :
    masterSlaveUpdate d true m = { m with master := { q := d, qn := !d } } := rfl

theorem masterSlaveUpdate_low (d : Bit) (m : MasterSlave) :
    masterSlaveUpdate d false m = { m with slave := { q := m.master.q, qn := !m.master.q } } := rfl

/-- A staged T clocked: Q toggles exactly when T is 1, and T stays (R220, R221). -/
theorem tClock_stageT (t : Bit) (f : TFlipFlop) : tClock (stageT t f) = { q := f.q ^^ t, t := t } := by
  cases t <;> simp [tClock, stageT]

/-- The outputs after a count step: every bit by its excitation from the one pre-clock snapshot (R232). -/
theorem counterStep_bits (c : Counter) :
    counterBits (counterStep c) =
      { e0 := c.ff.e0.q ^^ (excitation c.up (counterBits c)).e0, e1 := c.ff.e1.q ^^ (excitation c.up (counterBits c)).e1,
        e2 := c.ff.e2.q ^^ (excitation c.up (counterBits c)).e2,
        e3 := c.ff.e3.q ^^ (excitation c.up (counterBits c)).e3 } := by
  simp only [counterBits, counterStep, tClock_stageT]

end Sys2Proof.Machine
end

