-- ==== Sys2Proof/Laws/Memory.lean ====
section
/-!
SUPPORT. Memory: a read after a write to the same cell gives the value written, a write leaves every other cell alone, and
every memory operation keeps the canonical form.
-/

namespace Sys2Proof.Machine

theorem Memory.lookup_of_lt {m : Memory} {lo a : Nat} (h : Memory.wfFrom lo m = true) (ha : a < lo) :
    m.lookup a = unlisted := by
  induction m generalizing lo with
  | nil => rfl
  | cons e rest ih =>
    obtain ⟨k, v⟩ := e
    simp only [Memory.wfFrom, Bool.and_eq_true, decide_eq_true_eq] at h
    have hk : k ≠ a := by omega
    simp only [Memory.lookup, hk, if_false]
    exact ih h.2 (by omega)

/-- A write and a read of any cell of a canonical memory: the cell written holds the value, every other is as before. -/
theorem Memory.lookup_store {m : Memory} {lo : Nat} (h : Memory.wfFrom lo m = true) (a b : Nat) (v : Byte) :
    (m.store a v).lookup b = if b = a then v else m.lookup b := by
  induction m generalizing lo with
  | nil =>
    by_cases hb : b = a
    · by_cases hv : v = unlisted <;> simp [Memory.store, Memory.lookup, hb, hv]
    · have hb' : ¬a = b := fun h => hb h.symm
      by_cases hv : v = unlisted <;> simp [Memory.store, Memory.lookup, hb, hb', hv]
  | cons e rest ih =>
    obtain ⟨k, w⟩ := e
    simp only [Memory.wfFrom, Bool.and_eq_true, decide_eq_true_eq] at h
    have hrest := ih h.2
    have hout : a ≤ k → Memory.lookup rest a = unlisted := fun hle => Memory.lookup_of_lt h.2 (by omega)
    unfold Memory.store
    by_cases hb : b = a
    · subst hb
      rcases Nat.lt_trichotomy b k with h1 | h1 | h1
      · have hk : ¬k = b := by omega
        by_cases hv : v = unlisted <;> simp [h1, hk, hv, Memory.lookup, hout (by omega)]
      · subst h1
        by_cases hv : v = unlisted <;> simp [hv, Memory.lookup, hout (by omega)]
      · have hk : ¬k = b := by omega
        have hk' : ¬b = k := by omega
        have hlt : ¬b < k := by omega
        simp [hk, hk', hlt, Memory.lookup, hrest]
    · have hb' : ¬a = b := fun h => hb h.symm
      rcases Nat.lt_trichotomy a k with h1 | h1 | h1
      · by_cases hv : v = unlisted <;> simp [h1, hb, hb', hv, Memory.lookup]
      · subst h1
        by_cases hv : v = unlisted <;> simp [hb, hb', hv, Memory.lookup]
      · have hk' : ¬a = k := by omega
        have hlt : ¬a < k := by omega
        simp [hk', hlt, hb, Memory.lookup, hrest]

theorem Memory.wfFrom_mono {m : Memory} {lo hi : Nat} (h : Memory.wfFrom hi m = true) (hle : lo ≤ hi) :
    Memory.wfFrom lo m = true := by
  cases m with
  | nil => rfl
  | cons e rest =>
    simp only [Memory.wfFrom, Bool.and_eq_true, decide_eq_true_eq] at h ⊢
    exact ⟨⟨⟨by omega, h.1.1.2⟩, h.1.2⟩, h.2⟩

/-- A write of one of the sixteen cells keeps the canonical form. -/
theorem Memory.wfFrom_store {m : Memory} {lo a : Nat} (h : Memory.wfFrom lo m = true) (hlo : lo ≤ a) (ha : a ≤ 15)
    (v : Byte) : Memory.wfFrom lo (m.store a v) = true := by
  induction m generalizing lo with
  | nil =>
    unfold Memory.store
    split <;> simp_all [Memory.wfFrom]
  | cons e rest ih =>
    obtain ⟨k, w⟩ := e
    have hall := h
    simp only [Memory.wfFrom, Bool.and_eq_true, decide_eq_true_eq, bne_iff_ne, ne_eq] at h
    obtain ⟨⟨⟨h1, h2⟩, h3⟩, h4⟩ := h
    unfold Memory.store
    split
    · split
      · exact hall
      · simp only [Memory.wfFrom, Bool.and_eq_true, decide_eq_true_eq, bne_iff_ne, ne_eq]
        refine ⟨⟨⟨hlo, ha⟩, by assumption⟩, ⟨⟨by omega, h2⟩, h3⟩, h4⟩
    · split
      · rename_i hak
        subst hak
        split
        · exact Memory.wfFrom_mono h4 (by omega)
        · simp only [Memory.wfFrom, Bool.and_eq_true, decide_eq_true_eq, bne_iff_ne, ne_eq]
          exact ⟨⟨⟨h1, h2⟩, by assumption⟩, h4⟩
      · simp only [Memory.wfFrom, Bool.and_eq_true, decide_eq_true_eq, bne_iff_ne, ne_eq]
        exact ⟨⟨⟨h1, h2⟩, h3⟩, ih h4 (by omega)⟩

theorem Memory.wf_write {m : Memory} (h : m.wf = true) (a : Nibble) (v : Byte) : (m.write a v).wf = true :=
  Memory.wfFrom_store h (Nat.zero_le _) (by have := a.isLt; omega) v

theorem Memory.wf_hostWrite {m : Memory} (h : m.wf = true) (address value : Int) :
    (hostWrite m address value).wf = true := by
  unfold hostWrite
  split
  · exact Memory.wfFrom_store h (Nat.zero_le _) (by omega) _
  · exact h

theorem Memory.wf_loadWords {m : Memory} (h : m.wf = true) (words : List Int) (address : Int) :
    (loadWords m words address).wf = true := by
  induction words generalizing m address with
  | nil => exact h
  | cons w rest ih => exact ih (Memory.wf_hostWrite h address w) (address + 1)

/-- `MemRead` after `MemWrite` (R80, R91). -/
theorem Memory.read_write {m : Memory} (h : m.wf = true) (a b : Nibble) (v : Byte) :
    (m.write a v).read b = if b = a then v else m.read b := by
  unfold Memory.read Memory.write
  rw [Memory.lookup_store h]
  by_cases hb : b = a <;> simp [hb, BitVec.toNat_inj]

/-- A host write to an address in range, seen from any cell (R89). -/
theorem Memory.lookup_hostWrite {m : Memory} (h : m.wf = true) (address value : Int) (b : Nat) :
    (hostWrite m address value).lookup b =
      if 0 ≤ address ∧ address ≤ 15 ∧ (b : Int) = address then mask8 value else m.lookup b := by
  unfold hostWrite
  split
  · rename_i hr
    rw [Memory.lookup_store h]
    have : b = address.toNat ↔ (b : Int) = address := by omega
    simp [this, hr.1, hr.2]
  · rename_i hr
    have : ¬(0 ≤ address ∧ address ≤ 15 ∧ (b : Int) = address) := fun hc => hr ⟨hc.1, hc.2.1⟩
    simp [this]

theorem Memory.reset_wf : State.reset.cpu.mem.wf = true := by decide

end Sys2Proof.Machine
end

