-- ==== Sys2Proof/Laws/State.lean ====
section
/-! SUPPORT. One lemma per field per update of State, and per field of the CPU's updates, so that no proof unfolds one. -/

namespace Sys2Proof.Machine

variable (s : State)

@[simp] theorem setFullAdder_fullAdder (v : FullAdder) : (s.setFullAdder v).fullAdder = v := rfl
@[simp] theorem setFullAdder_rippleAdder (v : FullAdder) : (s.setFullAdder v).rippleAdder = s.rippleAdder := rfl
@[simp] theorem setFullAdder_comparator (v : FullAdder) : (s.setFullAdder v).comparator = s.comparator := rfl
@[simp] theorem setFullAdder_srNor (v : FullAdder) : (s.setFullAdder v).srNor = s.srNor := rfl
@[simp] theorem setFullAdder_srNand (v : FullAdder) : (s.setFullAdder v).srNand = s.srNand := rfl
@[simp] theorem setFullAdder_dLatch (v : FullAdder) : (s.setFullAdder v).dLatch = s.dLatch := rfl
@[simp] theorem setFullAdder_masterSlave (v : FullAdder) : (s.setFullAdder v).masterSlave = s.masterSlave := rfl
@[simp] theorem setFullAdder_jk (v : FullAdder) : (s.setFullAdder v).jk = s.jk := rfl
@[simp] theorem setFullAdder_tFlip (v : FullAdder) : (s.setFullAdder v).tFlip = s.tFlip := rfl
@[simp] theorem setFullAdder_counter (v : FullAdder) : (s.setFullAdder v).counter = s.counter := rfl
@[simp] theorem setFullAdder_shift (v : FullAdder) : (s.setFullAdder v).shift = s.shift := rfl
@[simp] theorem setFullAdder_cpu (v : FullAdder) : (s.setFullAdder v).cpu = s.cpu := rfl
@[simp] theorem setFullAdder_calls (v : FullAdder) : (s.setFullAdder v).calls = s.calls := rfl
@[simp] theorem setFullAdder_ret (v : FullAdder) : (s.setFullAdder v).ret = s.ret := rfl
@[simp] theorem setFullAdder_draws (v : FullAdder) : (s.setFullAdder v).draws = s.draws := rfl

@[simp] theorem setRippleAdder_fullAdder (v : RippleAdder) : (s.setRippleAdder v).fullAdder = s.fullAdder := rfl
@[simp] theorem setRippleAdder_rippleAdder (v : RippleAdder) : (s.setRippleAdder v).rippleAdder = v := rfl
@[simp] theorem setRippleAdder_comparator (v : RippleAdder) : (s.setRippleAdder v).comparator = s.comparator := rfl
@[simp] theorem setRippleAdder_srNor (v : RippleAdder) : (s.setRippleAdder v).srNor = s.srNor := rfl
@[simp] theorem setRippleAdder_srNand (v : RippleAdder) : (s.setRippleAdder v).srNand = s.srNand := rfl
@[simp] theorem setRippleAdder_dLatch (v : RippleAdder) : (s.setRippleAdder v).dLatch = s.dLatch := rfl
@[simp] theorem setRippleAdder_masterSlave (v : RippleAdder) : (s.setRippleAdder v).masterSlave = s.masterSlave := rfl
@[simp] theorem setRippleAdder_jk (v : RippleAdder) : (s.setRippleAdder v).jk = s.jk := rfl
@[simp] theorem setRippleAdder_tFlip (v : RippleAdder) : (s.setRippleAdder v).tFlip = s.tFlip := rfl
@[simp] theorem setRippleAdder_counter (v : RippleAdder) : (s.setRippleAdder v).counter = s.counter := rfl
@[simp] theorem setRippleAdder_shift (v : RippleAdder) : (s.setRippleAdder v).shift = s.shift := rfl
@[simp] theorem setRippleAdder_cpu (v : RippleAdder) : (s.setRippleAdder v).cpu = s.cpu := rfl
@[simp] theorem setRippleAdder_calls (v : RippleAdder) : (s.setRippleAdder v).calls = s.calls := rfl
@[simp] theorem setRippleAdder_ret (v : RippleAdder) : (s.setRippleAdder v).ret = s.ret := rfl
@[simp] theorem setRippleAdder_draws (v : RippleAdder) : (s.setRippleAdder v).draws = s.draws := rfl

@[simp] theorem setComparator_fullAdder (v : Comparator) : (s.setComparator v).fullAdder = s.fullAdder := rfl
@[simp] theorem setComparator_rippleAdder (v : Comparator) : (s.setComparator v).rippleAdder = s.rippleAdder := rfl
@[simp] theorem setComparator_comparator (v : Comparator) : (s.setComparator v).comparator = v := rfl
@[simp] theorem setComparator_srNor (v : Comparator) : (s.setComparator v).srNor = s.srNor := rfl
@[simp] theorem setComparator_srNand (v : Comparator) : (s.setComparator v).srNand = s.srNand := rfl
@[simp] theorem setComparator_dLatch (v : Comparator) : (s.setComparator v).dLatch = s.dLatch := rfl
@[simp] theorem setComparator_masterSlave (v : Comparator) : (s.setComparator v).masterSlave = s.masterSlave := rfl
@[simp] theorem setComparator_jk (v : Comparator) : (s.setComparator v).jk = s.jk := rfl
@[simp] theorem setComparator_tFlip (v : Comparator) : (s.setComparator v).tFlip = s.tFlip := rfl
@[simp] theorem setComparator_counter (v : Comparator) : (s.setComparator v).counter = s.counter := rfl
@[simp] theorem setComparator_shift (v : Comparator) : (s.setComparator v).shift = s.shift := rfl
@[simp] theorem setComparator_cpu (v : Comparator) : (s.setComparator v).cpu = s.cpu := rfl
@[simp] theorem setComparator_calls (v : Comparator) : (s.setComparator v).calls = s.calls := rfl
@[simp] theorem setComparator_ret (v : Comparator) : (s.setComparator v).ret = s.ret := rfl
@[simp] theorem setComparator_draws (v : Comparator) : (s.setComparator v).draws = s.draws := rfl

@[simp] theorem setSrNor_fullAdder (v : Latch) : (s.setSrNor v).fullAdder = s.fullAdder := rfl
@[simp] theorem setSrNor_rippleAdder (v : Latch) : (s.setSrNor v).rippleAdder = s.rippleAdder := rfl
@[simp] theorem setSrNor_comparator (v : Latch) : (s.setSrNor v).comparator = s.comparator := rfl
@[simp] theorem setSrNor_srNor (v : Latch) : (s.setSrNor v).srNor = v := rfl
@[simp] theorem setSrNor_srNand (v : Latch) : (s.setSrNor v).srNand = s.srNand := rfl
@[simp] theorem setSrNor_dLatch (v : Latch) : (s.setSrNor v).dLatch = s.dLatch := rfl
@[simp] theorem setSrNor_masterSlave (v : Latch) : (s.setSrNor v).masterSlave = s.masterSlave := rfl
@[simp] theorem setSrNor_jk (v : Latch) : (s.setSrNor v).jk = s.jk := rfl
@[simp] theorem setSrNor_tFlip (v : Latch) : (s.setSrNor v).tFlip = s.tFlip := rfl
@[simp] theorem setSrNor_counter (v : Latch) : (s.setSrNor v).counter = s.counter := rfl
@[simp] theorem setSrNor_shift (v : Latch) : (s.setSrNor v).shift = s.shift := rfl
@[simp] theorem setSrNor_cpu (v : Latch) : (s.setSrNor v).cpu = s.cpu := rfl
@[simp] theorem setSrNor_calls (v : Latch) : (s.setSrNor v).calls = s.calls := rfl
@[simp] theorem setSrNor_ret (v : Latch) : (s.setSrNor v).ret = s.ret := rfl
@[simp] theorem setSrNor_draws (v : Latch) : (s.setSrNor v).draws = s.draws := rfl

@[simp] theorem setSrNand_fullAdder (v : Latch) : (s.setSrNand v).fullAdder = s.fullAdder := rfl
@[simp] theorem setSrNand_rippleAdder (v : Latch) : (s.setSrNand v).rippleAdder = s.rippleAdder := rfl
@[simp] theorem setSrNand_comparator (v : Latch) : (s.setSrNand v).comparator = s.comparator := rfl
@[simp] theorem setSrNand_srNor (v : Latch) : (s.setSrNand v).srNor = s.srNor := rfl
@[simp] theorem setSrNand_srNand (v : Latch) : (s.setSrNand v).srNand = v := rfl
@[simp] theorem setSrNand_dLatch (v : Latch) : (s.setSrNand v).dLatch = s.dLatch := rfl
@[simp] theorem setSrNand_masterSlave (v : Latch) : (s.setSrNand v).masterSlave = s.masterSlave := rfl
@[simp] theorem setSrNand_jk (v : Latch) : (s.setSrNand v).jk = s.jk := rfl
@[simp] theorem setSrNand_tFlip (v : Latch) : (s.setSrNand v).tFlip = s.tFlip := rfl
@[simp] theorem setSrNand_counter (v : Latch) : (s.setSrNand v).counter = s.counter := rfl
@[simp] theorem setSrNand_shift (v : Latch) : (s.setSrNand v).shift = s.shift := rfl
@[simp] theorem setSrNand_cpu (v : Latch) : (s.setSrNand v).cpu = s.cpu := rfl
@[simp] theorem setSrNand_calls (v : Latch) : (s.setSrNand v).calls = s.calls := rfl
@[simp] theorem setSrNand_ret (v : Latch) : (s.setSrNand v).ret = s.ret := rfl
@[simp] theorem setSrNand_draws (v : Latch) : (s.setSrNand v).draws = s.draws := rfl

@[simp] theorem setDLatch_fullAdder (v : Latch) : (s.setDLatch v).fullAdder = s.fullAdder := rfl
@[simp] theorem setDLatch_rippleAdder (v : Latch) : (s.setDLatch v).rippleAdder = s.rippleAdder := rfl
@[simp] theorem setDLatch_comparator (v : Latch) : (s.setDLatch v).comparator = s.comparator := rfl
@[simp] theorem setDLatch_srNor (v : Latch) : (s.setDLatch v).srNor = s.srNor := rfl
@[simp] theorem setDLatch_srNand (v : Latch) : (s.setDLatch v).srNand = s.srNand := rfl
@[simp] theorem setDLatch_dLatch (v : Latch) : (s.setDLatch v).dLatch = v := rfl
@[simp] theorem setDLatch_masterSlave (v : Latch) : (s.setDLatch v).masterSlave = s.masterSlave := rfl
@[simp] theorem setDLatch_jk (v : Latch) : (s.setDLatch v).jk = s.jk := rfl
@[simp] theorem setDLatch_tFlip (v : Latch) : (s.setDLatch v).tFlip = s.tFlip := rfl
@[simp] theorem setDLatch_counter (v : Latch) : (s.setDLatch v).counter = s.counter := rfl
@[simp] theorem setDLatch_shift (v : Latch) : (s.setDLatch v).shift = s.shift := rfl
@[simp] theorem setDLatch_cpu (v : Latch) : (s.setDLatch v).cpu = s.cpu := rfl
@[simp] theorem setDLatch_calls (v : Latch) : (s.setDLatch v).calls = s.calls := rfl
@[simp] theorem setDLatch_ret (v : Latch) : (s.setDLatch v).ret = s.ret := rfl
@[simp] theorem setDLatch_draws (v : Latch) : (s.setDLatch v).draws = s.draws := rfl

@[simp] theorem setMasterSlave_fullAdder (v : MasterSlave) : (s.setMasterSlave v).fullAdder = s.fullAdder := rfl
@[simp] theorem setMasterSlave_rippleAdder (v : MasterSlave) : (s.setMasterSlave v).rippleAdder = s.rippleAdder := rfl
@[simp] theorem setMasterSlave_comparator (v : MasterSlave) : (s.setMasterSlave v).comparator = s.comparator := rfl
@[simp] theorem setMasterSlave_srNor (v : MasterSlave) : (s.setMasterSlave v).srNor = s.srNor := rfl
@[simp] theorem setMasterSlave_srNand (v : MasterSlave) : (s.setMasterSlave v).srNand = s.srNand := rfl
@[simp] theorem setMasterSlave_dLatch (v : MasterSlave) : (s.setMasterSlave v).dLatch = s.dLatch := rfl
@[simp] theorem setMasterSlave_masterSlave (v : MasterSlave) : (s.setMasterSlave v).masterSlave = v := rfl
@[simp] theorem setMasterSlave_jk (v : MasterSlave) : (s.setMasterSlave v).jk = s.jk := rfl
@[simp] theorem setMasterSlave_tFlip (v : MasterSlave) : (s.setMasterSlave v).tFlip = s.tFlip := rfl
@[simp] theorem setMasterSlave_counter (v : MasterSlave) : (s.setMasterSlave v).counter = s.counter := rfl
@[simp] theorem setMasterSlave_shift (v : MasterSlave) : (s.setMasterSlave v).shift = s.shift := rfl
@[simp] theorem setMasterSlave_cpu (v : MasterSlave) : (s.setMasterSlave v).cpu = s.cpu := rfl
@[simp] theorem setMasterSlave_calls (v : MasterSlave) : (s.setMasterSlave v).calls = s.calls := rfl
@[simp] theorem setMasterSlave_ret (v : MasterSlave) : (s.setMasterSlave v).ret = s.ret := rfl
@[simp] theorem setMasterSlave_draws (v : MasterSlave) : (s.setMasterSlave v).draws = s.draws := rfl

@[simp] theorem setJk_fullAdder (v : JkFlipFlop) : (s.setJk v).fullAdder = s.fullAdder := rfl
@[simp] theorem setJk_rippleAdder (v : JkFlipFlop) : (s.setJk v).rippleAdder = s.rippleAdder := rfl
@[simp] theorem setJk_comparator (v : JkFlipFlop) : (s.setJk v).comparator = s.comparator := rfl
@[simp] theorem setJk_srNor (v : JkFlipFlop) : (s.setJk v).srNor = s.srNor := rfl
@[simp] theorem setJk_srNand (v : JkFlipFlop) : (s.setJk v).srNand = s.srNand := rfl
@[simp] theorem setJk_dLatch (v : JkFlipFlop) : (s.setJk v).dLatch = s.dLatch := rfl
@[simp] theorem setJk_masterSlave (v : JkFlipFlop) : (s.setJk v).masterSlave = s.masterSlave := rfl
@[simp] theorem setJk_jk (v : JkFlipFlop) : (s.setJk v).jk = v := rfl
@[simp] theorem setJk_tFlip (v : JkFlipFlop) : (s.setJk v).tFlip = s.tFlip := rfl
@[simp] theorem setJk_counter (v : JkFlipFlop) : (s.setJk v).counter = s.counter := rfl
@[simp] theorem setJk_shift (v : JkFlipFlop) : (s.setJk v).shift = s.shift := rfl
@[simp] theorem setJk_cpu (v : JkFlipFlop) : (s.setJk v).cpu = s.cpu := rfl
@[simp] theorem setJk_calls (v : JkFlipFlop) : (s.setJk v).calls = s.calls := rfl
@[simp] theorem setJk_ret (v : JkFlipFlop) : (s.setJk v).ret = s.ret := rfl
@[simp] theorem setJk_draws (v : JkFlipFlop) : (s.setJk v).draws = s.draws := rfl

@[simp] theorem setTFlip_fullAdder (v : TFlipFlop) : (s.setTFlip v).fullAdder = s.fullAdder := rfl
@[simp] theorem setTFlip_rippleAdder (v : TFlipFlop) : (s.setTFlip v).rippleAdder = s.rippleAdder := rfl
@[simp] theorem setTFlip_comparator (v : TFlipFlop) : (s.setTFlip v).comparator = s.comparator := rfl
@[simp] theorem setTFlip_srNor (v : TFlipFlop) : (s.setTFlip v).srNor = s.srNor := rfl
@[simp] theorem setTFlip_srNand (v : TFlipFlop) : (s.setTFlip v).srNand = s.srNand := rfl
@[simp] theorem setTFlip_dLatch (v : TFlipFlop) : (s.setTFlip v).dLatch = s.dLatch := rfl
@[simp] theorem setTFlip_masterSlave (v : TFlipFlop) : (s.setTFlip v).masterSlave = s.masterSlave := rfl
@[simp] theorem setTFlip_jk (v : TFlipFlop) : (s.setTFlip v).jk = s.jk := rfl
@[simp] theorem setTFlip_tFlip (v : TFlipFlop) : (s.setTFlip v).tFlip = v := rfl
@[simp] theorem setTFlip_counter (v : TFlipFlop) : (s.setTFlip v).counter = s.counter := rfl
@[simp] theorem setTFlip_shift (v : TFlipFlop) : (s.setTFlip v).shift = s.shift := rfl
@[simp] theorem setTFlip_cpu (v : TFlipFlop) : (s.setTFlip v).cpu = s.cpu := rfl
@[simp] theorem setTFlip_calls (v : TFlipFlop) : (s.setTFlip v).calls = s.calls := rfl
@[simp] theorem setTFlip_ret (v : TFlipFlop) : (s.setTFlip v).ret = s.ret := rfl
@[simp] theorem setTFlip_draws (v : TFlipFlop) : (s.setTFlip v).draws = s.draws := rfl

@[simp] theorem setCounter_fullAdder (v : Counter) : (s.setCounter v).fullAdder = s.fullAdder := rfl
@[simp] theorem setCounter_rippleAdder (v : Counter) : (s.setCounter v).rippleAdder = s.rippleAdder := rfl
@[simp] theorem setCounter_comparator (v : Counter) : (s.setCounter v).comparator = s.comparator := rfl
@[simp] theorem setCounter_srNor (v : Counter) : (s.setCounter v).srNor = s.srNor := rfl
@[simp] theorem setCounter_srNand (v : Counter) : (s.setCounter v).srNand = s.srNand := rfl
@[simp] theorem setCounter_dLatch (v : Counter) : (s.setCounter v).dLatch = s.dLatch := rfl
@[simp] theorem setCounter_masterSlave (v : Counter) : (s.setCounter v).masterSlave = s.masterSlave := rfl
@[simp] theorem setCounter_jk (v : Counter) : (s.setCounter v).jk = s.jk := rfl
@[simp] theorem setCounter_tFlip (v : Counter) : (s.setCounter v).tFlip = s.tFlip := rfl
@[simp] theorem setCounter_counter (v : Counter) : (s.setCounter v).counter = v := rfl
@[simp] theorem setCounter_shift (v : Counter) : (s.setCounter v).shift = s.shift := rfl
@[simp] theorem setCounter_cpu (v : Counter) : (s.setCounter v).cpu = s.cpu := rfl
@[simp] theorem setCounter_calls (v : Counter) : (s.setCounter v).calls = s.calls := rfl
@[simp] theorem setCounter_ret (v : Counter) : (s.setCounter v).ret = s.ret := rfl
@[simp] theorem setCounter_draws (v : Counter) : (s.setCounter v).draws = s.draws := rfl

@[simp] theorem setShift_fullAdder (v : ShiftRegister) : (s.setShift v).fullAdder = s.fullAdder := rfl
@[simp] theorem setShift_rippleAdder (v : ShiftRegister) : (s.setShift v).rippleAdder = s.rippleAdder := rfl
@[simp] theorem setShift_comparator (v : ShiftRegister) : (s.setShift v).comparator = s.comparator := rfl
@[simp] theorem setShift_srNor (v : ShiftRegister) : (s.setShift v).srNor = s.srNor := rfl
@[simp] theorem setShift_srNand (v : ShiftRegister) : (s.setShift v).srNand = s.srNand := rfl
@[simp] theorem setShift_dLatch (v : ShiftRegister) : (s.setShift v).dLatch = s.dLatch := rfl
@[simp] theorem setShift_masterSlave (v : ShiftRegister) : (s.setShift v).masterSlave = s.masterSlave := rfl
@[simp] theorem setShift_jk (v : ShiftRegister) : (s.setShift v).jk = s.jk := rfl
@[simp] theorem setShift_tFlip (v : ShiftRegister) : (s.setShift v).tFlip = s.tFlip := rfl
@[simp] theorem setShift_counter (v : ShiftRegister) : (s.setShift v).counter = s.counter := rfl
@[simp] theorem setShift_shift (v : ShiftRegister) : (s.setShift v).shift = v := rfl
@[simp] theorem setShift_cpu (v : ShiftRegister) : (s.setShift v).cpu = s.cpu := rfl
@[simp] theorem setShift_calls (v : ShiftRegister) : (s.setShift v).calls = s.calls := rfl
@[simp] theorem setShift_ret (v : ShiftRegister) : (s.setShift v).ret = s.ret := rfl
@[simp] theorem setShift_draws (v : ShiftRegister) : (s.setShift v).draws = s.draws := rfl

@[simp] theorem setCpu_fullAdder (v : Cpu) : (s.setCpu v).fullAdder = s.fullAdder := rfl
@[simp] theorem setCpu_rippleAdder (v : Cpu) : (s.setCpu v).rippleAdder = s.rippleAdder := rfl
@[simp] theorem setCpu_comparator (v : Cpu) : (s.setCpu v).comparator = s.comparator := rfl
@[simp] theorem setCpu_srNor (v : Cpu) : (s.setCpu v).srNor = s.srNor := rfl
@[simp] theorem setCpu_srNand (v : Cpu) : (s.setCpu v).srNand = s.srNand := rfl
@[simp] theorem setCpu_dLatch (v : Cpu) : (s.setCpu v).dLatch = s.dLatch := rfl
@[simp] theorem setCpu_masterSlave (v : Cpu) : (s.setCpu v).masterSlave = s.masterSlave := rfl
@[simp] theorem setCpu_jk (v : Cpu) : (s.setCpu v).jk = s.jk := rfl
@[simp] theorem setCpu_tFlip (v : Cpu) : (s.setCpu v).tFlip = s.tFlip := rfl
@[simp] theorem setCpu_counter (v : Cpu) : (s.setCpu v).counter = s.counter := rfl
@[simp] theorem setCpu_shift (v : Cpu) : (s.setCpu v).shift = s.shift := rfl
@[simp] theorem setCpu_cpu (v : Cpu) : (s.setCpu v).cpu = v := rfl
@[simp] theorem setCpu_calls (v : Cpu) : (s.setCpu v).calls = s.calls := rfl
@[simp] theorem setCpu_ret (v : Cpu) : (s.setCpu v).ret = s.ret := rfl
@[simp] theorem setCpu_draws (v : Cpu) : (s.setCpu v).draws = s.draws := rfl

@[simp] theorem setCalls_fullAdder (v : List Frame) : (s.setCalls v).fullAdder = s.fullAdder := rfl
@[simp] theorem setCalls_rippleAdder (v : List Frame) : (s.setCalls v).rippleAdder = s.rippleAdder := rfl
@[simp] theorem setCalls_comparator (v : List Frame) : (s.setCalls v).comparator = s.comparator := rfl
@[simp] theorem setCalls_srNor (v : List Frame) : (s.setCalls v).srNor = s.srNor := rfl
@[simp] theorem setCalls_srNand (v : List Frame) : (s.setCalls v).srNand = s.srNand := rfl
@[simp] theorem setCalls_dLatch (v : List Frame) : (s.setCalls v).dLatch = s.dLatch := rfl
@[simp] theorem setCalls_masterSlave (v : List Frame) : (s.setCalls v).masterSlave = s.masterSlave := rfl
@[simp] theorem setCalls_jk (v : List Frame) : (s.setCalls v).jk = s.jk := rfl
@[simp] theorem setCalls_tFlip (v : List Frame) : (s.setCalls v).tFlip = s.tFlip := rfl
@[simp] theorem setCalls_counter (v : List Frame) : (s.setCalls v).counter = s.counter := rfl
@[simp] theorem setCalls_shift (v : List Frame) : (s.setCalls v).shift = s.shift := rfl
@[simp] theorem setCalls_cpu (v : List Frame) : (s.setCalls v).cpu = s.cpu := rfl
@[simp] theorem setCalls_calls (v : List Frame) : (s.setCalls v).calls = v := rfl
@[simp] theorem setCalls_ret (v : List Frame) : (s.setCalls v).ret = s.ret := rfl
@[simp] theorem setCalls_draws (v : List Frame) : (s.setCalls v).draws = s.draws := rfl

@[simp] theorem setRet_fullAdder (v : Ret) : (s.setRet v).fullAdder = s.fullAdder := rfl
@[simp] theorem setRet_rippleAdder (v : Ret) : (s.setRet v).rippleAdder = s.rippleAdder := rfl
@[simp] theorem setRet_comparator (v : Ret) : (s.setRet v).comparator = s.comparator := rfl
@[simp] theorem setRet_srNor (v : Ret) : (s.setRet v).srNor = s.srNor := rfl
@[simp] theorem setRet_srNand (v : Ret) : (s.setRet v).srNand = s.srNand := rfl
@[simp] theorem setRet_dLatch (v : Ret) : (s.setRet v).dLatch = s.dLatch := rfl
@[simp] theorem setRet_masterSlave (v : Ret) : (s.setRet v).masterSlave = s.masterSlave := rfl
@[simp] theorem setRet_jk (v : Ret) : (s.setRet v).jk = s.jk := rfl
@[simp] theorem setRet_tFlip (v : Ret) : (s.setRet v).tFlip = s.tFlip := rfl
@[simp] theorem setRet_counter (v : Ret) : (s.setRet v).counter = s.counter := rfl
@[simp] theorem setRet_shift (v : Ret) : (s.setRet v).shift = s.shift := rfl
@[simp] theorem setRet_cpu (v : Ret) : (s.setRet v).cpu = s.cpu := rfl
@[simp] theorem setRet_calls (v : Ret) : (s.setRet v).calls = s.calls := rfl
@[simp] theorem setRet_ret (v : Ret) : (s.setRet v).ret = v := rfl
@[simp] theorem setRet_draws (v : Ret) : (s.setRet v).draws = s.draws := rfl

@[simp] theorem describe_fullAdder : (describe s).fullAdder = s.fullAdder := rfl
@[simp] theorem describe_rippleAdder : (describe s).rippleAdder = s.rippleAdder := rfl
@[simp] theorem describe_comparator : (describe s).comparator = s.comparator := rfl
@[simp] theorem describe_srNor : (describe s).srNor = s.srNor := rfl
@[simp] theorem describe_srNand : (describe s).srNand = s.srNand := rfl
@[simp] theorem describe_dLatch : (describe s).dLatch = s.dLatch := rfl
@[simp] theorem describe_masterSlave : (describe s).masterSlave = s.masterSlave := rfl
@[simp] theorem describe_jk : (describe s).jk = s.jk := rfl
@[simp] theorem describe_tFlip : (describe s).tFlip = s.tFlip := rfl
@[simp] theorem describe_counter : (describe s).counter = s.counter := rfl
@[simp] theorem describe_shift : (describe s).shift = s.shift := rfl
@[simp] theorem describe_cpu : (describe s).cpu = { s.cpu with desc := Config.freeText s.draws } := rfl
@[simp] theorem describe_calls : (describe s).calls = s.calls := rfl
@[simp] theorem describe_ret : (describe s).ret = s.ret := rfl
@[simp] theorem describe_draws : (describe s).draws = s.draws + 1 := rfl

@[simp] theorem fetch_fullAdder : (fetch s).fullAdder = s.fullAdder := rfl
@[simp] theorem fetch_rippleAdder : (fetch s).rippleAdder = s.rippleAdder := rfl
@[simp] theorem fetch_comparator : (fetch s).comparator = s.comparator := rfl
@[simp] theorem fetch_srNor : (fetch s).srNor = s.srNor := rfl
@[simp] theorem fetch_srNand : (fetch s).srNand = s.srNand := rfl
@[simp] theorem fetch_dLatch : (fetch s).dLatch = s.dLatch := rfl
@[simp] theorem fetch_masterSlave : (fetch s).masterSlave = s.masterSlave := rfl
@[simp] theorem fetch_jk : (fetch s).jk = s.jk := rfl
@[simp] theorem fetch_tFlip : (fetch s).tFlip = s.tFlip := rfl
@[simp] theorem fetch_counter : (fetch s).counter = s.counter := rfl
@[simp] theorem fetch_shift : (fetch s).shift = s.shift := rfl
@[simp] theorem fetch_cpu : (fetch s).cpu = fetchWord s.cpu := rfl
@[simp] theorem fetch_calls : (fetch s).calls = s.calls := rfl
@[simp] theorem fetch_ret : (fetch s).ret = s.ret := rfl
@[simp] theorem fetch_draws : (fetch s).draws = s.draws := rfl

variable (r : Cpu)

@[simp] theorem fetchWord_mem : (fetchWord r).mem = r.mem := rfl
@[simp] theorem fetchWord_pc : (fetchWord r).pc = r.pc + 1#4 := rfl
@[simp] theorem fetchWord_ac : (fetchWord r).ac = r.ac := rfl
@[simp] theorem fetchWord_mar : (fetchWord r).mar = r.pc := rfl
@[simp] theorem fetchWord_ir : (fetchWord r).ir = r.mem.read r.pc := rfl
@[simp] theorem fetchWord_z : (fetchWord r).z = r.z := rfl
@[simp] theorem fetchWord_c : (fetchWord r).c = r.c := rfl
@[simp] theorem fetchWord_halted : (fetchWord r).halted = r.halted := rfl
@[simp] theorem fetchWord_out : (fetchWord r).out = r.out := rfl
@[simp] theorem fetchWord_desc : (fetchWord r).desc = r.desc := rfl

@[simp] theorem setMar_mem (operand : Nibble) : (setMar operand r).mem = r.mem := rfl
@[simp] theorem setMar_pc (operand : Nibble) : (setMar operand r).pc = r.pc := rfl
@[simp] theorem setMar_ac (operand : Nibble) : (setMar operand r).ac = r.ac := rfl
@[simp] theorem setMar_mar (operand : Nibble) : (setMar operand r).mar = operand := rfl
@[simp] theorem setMar_ir (operand : Nibble) : (setMar operand r).ir = r.ir := rfl
@[simp] theorem setMar_z (operand : Nibble) : (setMar operand r).z = r.z := rfl
@[simp] theorem setMar_c (operand : Nibble) : (setMar operand r).c = r.c := rfl
@[simp] theorem setMar_halted (operand : Nibble) : (setMar operand r).halted = r.halted := rfl
@[simp] theorem setMar_out (operand : Nibble) : (setMar operand r).out = r.out := rfl
@[simp] theorem setMar_desc (operand : Nibble) : (setMar operand r).desc = r.desc := rfl

@[simp] theorem setAc_mem (v : Nibble) : (setAc v r).mem = r.mem := rfl
@[simp] theorem setAc_pc (v : Nibble) : (setAc v r).pc = r.pc := rfl
@[simp] theorem setAc_ac (v : Nibble) : (setAc v r).ac = v := rfl
@[simp] theorem setAc_mar (v : Nibble) : (setAc v r).mar = r.mar := rfl
@[simp] theorem setAc_ir (v : Nibble) : (setAc v r).ir = r.ir := rfl
@[simp] theorem setAc_z (v : Nibble) : (setAc v r).z = zeroFlag v := rfl
@[simp] theorem setAc_c (v : Nibble) : (setAc v r).c = r.c := rfl
@[simp] theorem setAc_halted (v : Nibble) : (setAc v r).halted = r.halted := rfl
@[simp] theorem setAc_out (v : Nibble) : (setAc v r).out = r.out := rfl
@[simp] theorem setAc_desc (v : Nibble) : (setAc v r).desc = r.desc := rfl

@[simp] theorem housekeeping_mem (opcode : Nibble) : (housekeeping opcode r).mem = r.mem := by
  unfold housekeeping; split <;> rfl
@[simp] theorem housekeeping_pc (opcode : Nibble) : (housekeeping opcode r).pc = r.pc := by
  unfold housekeeping; split <;> rfl
@[simp] theorem housekeeping_ac (opcode : Nibble) : (housekeeping opcode r).ac = r.ac := by
  unfold housekeeping; split <;> rfl
@[simp] theorem housekeeping_mar (opcode : Nibble) : (housekeeping opcode r).mar = r.mar := by
  unfold housekeeping; split <;> rfl
@[simp] theorem housekeeping_ir (opcode : Nibble) : (housekeeping opcode r).ir = r.ir := by
  unfold housekeeping; split <;> rfl
@[simp] theorem housekeeping_z (opcode : Nibble) : (housekeeping opcode r).z = r.z := by
  unfold housekeeping; split <;> rfl
@[simp] theorem housekeeping_halted (opcode : Nibble) : (housekeeping opcode r).halted = r.halted := by
  unfold housekeeping; split <;> rfl
@[simp] theorem housekeeping_out (opcode : Nibble) : (housekeeping opcode r).out = r.out := by
  unfold housekeeping; split <;> rfl
@[simp] theorem housekeeping_desc (opcode : Nibble) : (housekeeping opcode r).desc = r.desc := by
  unfold housekeeping; split <;> rfl

theorem housekeeping_c (opcode : Nibble) :
    (housekeeping opcode r).c = if opcode = 0b0010#4 then r.c else false := by
  unfold housekeeping; split <;> rfl

end Sys2Proof.Machine
end

