-- ==== Sys2Proof/Laws/Cpu.lean ====
section
/-! SUPPORT. The CPU's shared operations: what each can do, said once. -/

namespace Sys2Proof.Machine

/-- An operation that ends answers exactly one next state: the one it was given, with what it returns. -/
theorem give_next_iff (r : Ret) (s t : State) : give r s = .next t ↔ t = s.setRet r := by
  simp [give, eq_comm]

theorem done_next_iff (s t : State) : done s = .next t ↔ t = s.setRet .none :=
  give_next_iff .none s t

/-- What follows the fetch of a word always ends, and this is all it does. -/
theorem finishWord_next_iff (opcode : Nibble) (effect : Cpu → Cpu) (s t : State) :
    finishWord opcode effect s = .next t ↔
      t = (describe (s.setCpu (effect (housekeeping opcode s.cpu)))).setRet .none :=
  done_next_iff _ _

/-- A halted step always ends; it draws a text and touches nothing else. -/
theorem haltedStep_next_iff (s t : State) : haltedStep s = .next t ↔ t = (describe s).setRet .none :=
  done_next_iff _ _

/-- The flag invariant holds of whatever `setAc` writes (R51). -/
theorem setAc_zeroFlag (v : Nibble) (c : Cpu) : (setAc v c).z = ((setAc v c).ac == 0#4) := rfl

/-! The fields after each execute phase, and the circuits through the shared operations. -/

variable (r : Cpu) (s : State)

@[simp] theorem loadEffect_mem (operand : Nibble) : (loadEffect operand r).mem = r.mem := rfl
@[simp] theorem loadEffect_pc (operand : Nibble) : (loadEffect operand r).pc = r.pc := rfl
@[simp] theorem loadEffect_ac (operand : Nibble) : (loadEffect operand r).ac = mask4 (r.mem.read operand) := rfl
@[simp] theorem loadEffect_mar (operand : Nibble) : (loadEffect operand r).mar = operand := rfl
@[simp] theorem loadEffect_ir (operand : Nibble) : (loadEffect operand r).ir = r.ir := rfl
@[simp] theorem loadEffect_z (operand : Nibble) : (loadEffect operand r).z = zeroFlag (mask4 (r.mem.read operand)) := rfl
@[simp] theorem loadEffect_c (operand : Nibble) : (loadEffect operand r).c = r.c := rfl
@[simp] theorem loadEffect_halted (operand : Nibble) : (loadEffect operand r).halted = r.halted := rfl
@[simp] theorem loadEffect_out (operand : Nibble) : (loadEffect operand r).out = r.out := rfl
@[simp] theorem loadEffect_desc (operand : Nibble) : (loadEffect operand r).desc = r.desc := rfl

@[simp] theorem addEffect_mem (operand : Nibble) : (addEffect operand r).mem = r.mem := rfl
@[simp] theorem addEffect_pc (operand : Nibble) : (addEffect operand r).pc = r.pc := rfl
@[simp] theorem addEffect_ac (operand : Nibble) : (addEffect operand r).ac = BitVec.ofNat 4 (r.ac.toNat + (r.mem.read operand).toNat) := rfl
@[simp] theorem addEffect_mar (operand : Nibble) : (addEffect operand r).mar = operand := rfl
@[simp] theorem addEffect_ir (operand : Nibble) : (addEffect operand r).ir = r.ir := rfl
@[simp] theorem addEffect_z (operand : Nibble) : (addEffect operand r).z = zeroFlag (BitVec.ofNat 4 (r.ac.toNat + (r.mem.read operand).toNat)) := rfl
@[simp] theorem addEffect_c (operand : Nibble) : (addEffect operand r).c = carryFlag (r.ac.toNat + (r.mem.read operand).toNat) := rfl
@[simp] theorem addEffect_halted (operand : Nibble) : (addEffect operand r).halted = r.halted := rfl
@[simp] theorem addEffect_out (operand : Nibble) : (addEffect operand r).out = r.out := rfl
@[simp] theorem addEffect_desc (operand : Nibble) : (addEffect operand r).desc = r.desc := rfl

@[simp] theorem storeEffect_mem (operand : Nibble) : (storeEffect operand r).mem = r.mem.write operand (zext8 r.ac) := rfl
@[simp] theorem storeEffect_pc (operand : Nibble) : (storeEffect operand r).pc = r.pc := rfl
@[simp] theorem storeEffect_ac (operand : Nibble) : (storeEffect operand r).ac = r.ac := rfl
@[simp] theorem storeEffect_mar (operand : Nibble) : (storeEffect operand r).mar = operand := rfl
@[simp] theorem storeEffect_ir (operand : Nibble) : (storeEffect operand r).ir = r.ir := rfl
@[simp] theorem storeEffect_z (operand : Nibble) : (storeEffect operand r).z = r.z := rfl
@[simp] theorem storeEffect_c (operand : Nibble) : (storeEffect operand r).c = r.c := rfl
@[simp] theorem storeEffect_halted (operand : Nibble) : (storeEffect operand r).halted = r.halted := rfl
@[simp] theorem storeEffect_out (operand : Nibble) : (storeEffect operand r).out = r.out := rfl
@[simp] theorem storeEffect_desc (operand : Nibble) : (storeEffect operand r).desc = r.desc := rfl

@[simp] theorem outEffect_mem : (outEffect r).mem = r.mem := rfl
@[simp] theorem outEffect_pc : (outEffect r).pc = r.pc := rfl
@[simp] theorem outEffect_ac : (outEffect r).ac = r.ac := rfl
@[simp] theorem outEffect_mar : (outEffect r).mar = r.mar := rfl
@[simp] theorem outEffect_ir : (outEffect r).ir = r.ir := rfl
@[simp] theorem outEffect_z : (outEffect r).z = r.z := rfl
@[simp] theorem outEffect_c : (outEffect r).c = r.c := rfl
@[simp] theorem outEffect_halted : (outEffect r).halted = r.halted := rfl
@[simp] theorem outEffect_out : (outEffect r).out = some r.ac := rfl
@[simp] theorem outEffect_desc : (outEffect r).desc = r.desc := rfl

@[simp] theorem haltEffect_mem : (haltEffect r).mem = r.mem := rfl
@[simp] theorem haltEffect_pc : (haltEffect r).pc = r.pc := rfl
@[simp] theorem haltEffect_ac : (haltEffect r).ac = r.ac := rfl
@[simp] theorem haltEffect_mar : (haltEffect r).mar = r.mar := rfl
@[simp] theorem haltEffect_ir : (haltEffect r).ir = r.ir := rfl
@[simp] theorem haltEffect_z : (haltEffect r).z = r.z := rfl
@[simp] theorem haltEffect_c : (haltEffect r).c = r.c := rfl
@[simp] theorem haltEffect_halted : (haltEffect r).halted = true := rfl
@[simp] theorem haltEffect_out : (haltEffect r).out = r.out := rfl
@[simp] theorem haltEffect_desc : (haltEffect r).desc = r.desc := rfl

@[simp] theorem setCpu_circuits (v : Cpu) : (s.setCpu v).circuits = s.circuits := rfl
@[simp] theorem setRet_circuits (v : Ret) : (s.setRet v).circuits = s.circuits := rfl
@[simp] theorem setCalls_circuits (v : List Frame) : (s.setCalls v).circuits = s.circuits := rfl
@[simp] theorem describe_circuits : (describe s).circuits = s.circuits := rfl
@[simp] theorem fetch_circuits : (fetch s).circuits = s.circuits := rfl

/-- Each execute phase keeps the CPU's invariant. -/
theorem loadEffect_inv {c : Cpu} (h : c.inv = true) (operand : Nibble) : (loadEffect operand c).inv = true := by
  simp only [Cpu.inv, Bool.and_eq_true] at h
  simp [Cpu.inv, loadEffect, zeroFlag, h.1]

theorem addEffect_inv {c : Cpu} (h : c.inv = true) (operand : Nibble) : (addEffect operand c).inv = true := by
  simp only [Cpu.inv, Bool.and_eq_true] at h
  simp [Cpu.inv, addEffect, zeroFlag, h.1]

theorem storeEffect_inv {c : Cpu} (h : c.inv = true) (operand : Nibble) : (storeEffect operand c).inv = true := by
  simp only [Cpu.inv, Bool.and_eq_true] at h
  simp only [Cpu.inv, storeEffect, setMar_z, setMar_ac, Bool.and_eq_true]
  exact ⟨Memory.wf_write h.1 _ _, h.2⟩

theorem outEffect_inv {c : Cpu} (h : c.inv = true) : (outEffect c).inv = true := h

theorem haltEffect_inv {c : Cpu} (h : c.inv = true) : (haltEffect c).inv = true := h

theorem fetchWord_inv {c : Cpu} (h : c.inv = true) : (fetchWord c).inv = true := h

theorem housekeeping_inv {c : Cpu} (h : c.inv = true) (opcode : Nibble) : (housekeeping opcode c).inv = true := by
  simpa [Cpu.inv] using h

/-- `zext_8` leaves the opcode field 0 (R94). -/
theorem zext8_opcode (v : Nibble) : opcodeOf (zext8 v) = 0#4 := by
  revert v; decide

/-- What a host write of a non-negative value stores is its residue modulo 256 (R11). -/
theorem mask8_of_nonneg {v : Int} (h : 0 ≤ v) : mask8 v = BitVec.ofNat 8 v.toNat := if_pos h

end Sys2Proof.Machine
end

