-- ==== Sys2Proof/Laws/Decode.lean ====
section
/-! SUPPORT. Decoding: the fields of a word, what a word can decode to, and the component and operation of a command id. -/

namespace Sys2Proof

@[simp] theorem opcodeOf_append (opcode x : Nibble) : opcodeOf (opcode ++ x) = opcode := by
  revert opcode x; decide

@[simp] theorem operandOf_append (opcode x : Nibble) : operandOf (opcode ++ x) = x := by
  revert opcode x; decide

/-- A word is its two fields (R100). -/
theorem opcodeOf_append_operandOf (w : Byte) : (opcodeOf w ++ operandOf w : Byte) = w := by
  revert w; decide

/-- What a word decodes to, by its opcode (R103): one of the five, or one of the eleven NOP rows. -/
theorem decodeWord_cases (w : Byte) :
    (opcodeOf w = 1#4 ∧ decodeWord w = .lda (operandOf w)) ∨ (opcodeOf w = 2#4 ∧ decodeWord w = .add (operandOf w)) ∨
    (opcodeOf w = 3#4 ∧ decodeWord w = .sta (operandOf w)) ∨ (opcodeOf w = 4#4 ∧ decodeWord w = .out (operandOf w)) ∨
    (opcodeOf w = 15#4 ∧ decodeWord w = .hlt (operandOf w)) ∨
    (opcodeOf w ∉ [1#4, 2#4, 3#4, 4#4, 15#4] ∧ decodeWord w ∈
      [Instr.nop0 (operandOf w), .nop5 (operandOf w), .nop6 (operandOf w), .nop7 (operandOf w), .nop8 (operandOf w),
        .nop9 (operandOf w), .nopA (operandOf w), .nopB (operandOf w), .nopC (operandOf w), .nopD (operandOf w),
        .nopE (operandOf w)]) := by
  revert w; decide

/-- A command id is its component and its operation (R111). -/
theorem commandId_split (id : BitVec 16) : id = BitVec.ofNat 16 (id.toNat / 256 * 256 + id.toNat % 256) := by
  apply BitVec.eq_of_toNat_eq
  have := id.isLt
  simp only [BitVec.toNat_ofNat]
  omega

namespace Machine

/-- A NOP row's meaning is the same shared operation as every word's, with no effect of its own (R280). -/
theorem exec_nop {x : Nibble} {i : Instr}
    (h : i ∈ [Instr.nop0 x, .nop5 x, .nop6 x, .nop7 x, .nop8 x, .nop9 x, .nopA x, .nopB x, .nopC x, .nopD x, .nopE x])
    (s : State) : ∃ opcode, opcode ≠ 0b0010#4 ∧ exec i s = finishWord opcode (fun c => c) s := by
  simp only [List.mem_cons, List.not_mem_nil, or_false] at h
  rcases h with h | h | h | h | h | h | h | h | h | h | h <;> subst h <;> exact ⟨_, by decide, rfl⟩

end Machine

end Sys2Proof
end

