-- ==== Sys2Proof/Laws/PerInstr.lean ====
section
/-!
SUPPORT. What is said of every instruction as syntax, one lemma per constructor: its encoding is well-formed (a CPU word
always is, R104; a call is one that the interface admits, R110 to R112).
-/

namespace Sys2Proof.Laws.EncodingWellFormed

/-- The encoding of the instruction is a CPU word, or a well-formed call. -/
def Statement (i : Instr) : Prop :=
  match encode i with
  | .word _ => True
  | .call f => f.wellFormed = true

theorem lda (operand : Nibble) : Statement (.lda operand) := trivial

theorem add (operand : Nibble) : Statement (.add operand) := trivial

theorem sta (operand : Nibble) : Statement (.sta operand) := trivial

theorem out (unused : Nibble) : Statement (.out unused) := trivial

theorem hlt (unused : Nibble) : Statement (.hlt unused) := trivial

theorem nop0 (unused : Nibble) : Statement (.nop0 unused) := trivial

theorem nop5 (unused : Nibble) : Statement (.nop5 unused) := trivial

theorem nop6 (unused : Nibble) : Statement (.nop6 unused) := trivial

theorem nop7 (unused : Nibble) : Statement (.nop7 unused) := trivial

theorem nop8 (unused : Nibble) : Statement (.nop8 unused) := trivial

theorem nop9 (unused : Nibble) : Statement (.nop9 unused) := trivial

theorem nopA (unused : Nibble) : Statement (.nopA unused) := trivial

theorem nopB (unused : Nibble) : Statement (.nopB unused) := trivial

theorem nopC (unused : Nibble) : Statement (.nopC unused) := trivial

theorem nopD (unused : Nibble) : Statement (.nopD unused) := trivial

theorem nopE (unused : Nibble) : Statement (.nopE unused) := trivial

theorem fullAdderUpdate (a : Bit) (b : Bit) (cin : Bit) : Statement (.fullAdderUpdate a b cin) := by
  simp [Statement, encode, call, Frame.wellFormed, signature, argsFit, Arg.fits]

theorem fullAdderGetSum : Statement .fullAdderGetSum := rfl

theorem fullAdderGetCarryOut : Statement .fullAdderGetCarryOut := rfl

theorem fullAdderReset : Statement .fullAdderReset := rfl

theorem rippleAdderUpdate (a : Quad Bit) (b : Quad Bit) (cin : Bit) : Statement (.rippleAdderUpdate a b cin) := by
  simp [Statement, encode, call, quadArg, Frame.wellFormed, signature, argsFit, Arg.fits]

theorem rippleAdderGetSum : Statement .rippleAdderGetSum := rfl

theorem rippleAdderGetCarryOut : Statement .rippleAdderGetCarryOut := rfl

theorem rippleAdderReset : Statement .rippleAdderReset := rfl

theorem comparatorCompare (a : Quad Bit) (b : Quad Bit) : Statement (.comparatorCompare a b) := by
  simp [Statement, encode, call, quadArg, Frame.wellFormed, signature, argsFit, Arg.fits]

theorem comparatorGetResult : Statement .comparatorGetResult := rfl

theorem comparatorReset : Statement .comparatorReset := rfl

theorem mux4GetOutput (data : List Bit) (select : List Bit) : Statement (.mux4GetOutput data select) := by
  simp [Statement, encode, call, Frame.wellFormed, signature, argsFit, Arg.fits]

theorem mux4Reset : Statement .mux4Reset := rfl

theorem mux8GetOutput (data : List Bit) (select : List Bit) : Statement (.mux8GetOutput data select) := by
  simp [Statement, encode, call, Frame.wellFormed, signature, argsFit, Arg.fits]

theorem mux8Reset : Statement .mux8Reset := rfl

theorem decoderGetActiveOutput (enable : Bit) (a2 : Bit) (a1 : Bit) (a0 : Bit) : Statement (.decoderGetActiveOutput enable a2 a1 a0) := by
  simp [Statement, encode, call, Frame.wellFormed, signature, argsFit, Arg.fits]

theorem decoderReset : Statement .decoderReset := rfl

theorem encoderGetOutput (enable : Bit) (activeIndex : Int) : Statement (.encoderGetOutput enable activeIndex) := by
  simp [Statement, encode, call, Frame.wellFormed, signature, argsFit, Arg.fits]

theorem encoderReset : Statement .encoderReset := rfl

theorem sevenSegGetSegmentsFor (n : Int) : Statement (.sevenSegGetSegmentsFor n) := by
  simp [Statement, encode, call, Frame.wellFormed, signature, argsFit, Arg.fits]

theorem sevenSegReset : Statement .sevenSegReset := rfl

theorem srNorUpdate (set : Bit) (rst : Bit) : Statement (.srNorUpdate set rst) := by
  simp [Statement, encode, call, Frame.wellFormed, signature, argsFit, Arg.fits]

theorem srNorGetQ : Statement .srNorGetQ := rfl

theorem srNorGetQNot : Statement .srNorGetQNot := rfl

theorem srNorReset : Statement .srNorReset := rfl

theorem srNandUpdate (set : Bit) (rst : Bit) : Statement (.srNandUpdate set rst) := by
  simp [Statement, encode, call, Frame.wellFormed, signature, argsFit, Arg.fits]

theorem srNandGetQ : Statement .srNandGetQ := rfl

theorem srNandGetQNot : Statement .srNandGetQNot := rfl

theorem srNandReset : Statement .srNandReset := rfl

theorem dLatchUpdate (d : Bit) (enable : Bit) : Statement (.dLatchUpdate d enable) := by
  simp [Statement, encode, call, Frame.wellFormed, signature, argsFit, Arg.fits]

theorem dLatchGetQ : Statement .dLatchGetQ := rfl

theorem dLatchGetQNot : Statement .dLatchGetQNot := rfl

theorem dLatchReset : Statement .dLatchReset := rfl

theorem masterSlaveUpdate (d : Bit) (clk : Bit) : Statement (.masterSlaveUpdate d clk) := by
  simp [Statement, encode, call, Frame.wellFormed, signature, argsFit, Arg.fits]

theorem masterSlaveGetQ : Statement .masterSlaveGetQ := rfl

theorem masterSlaveGetQNot : Statement .masterSlaveGetQNot := rfl

theorem masterSlaveReset : Statement .masterSlaveReset := rfl

theorem jkSetInputs (j : Bit) (k : Bit) : Statement (.jkSetInputs j k) := by
  simp [Statement, encode, call, Frame.wellFormed, signature, argsFit, Arg.fits]

theorem jkClock : Statement .jkClock := rfl

theorem jkGetQ : Statement .jkGetQ := rfl

theorem jkGetQNot : Statement .jkGetQNot := rfl

theorem jkReset : Statement .jkReset := rfl

theorem tFlipSetInput (t : Bit) : Statement (.tFlipSetInput t) := by
  simp [Statement, encode, call, Frame.wellFormed, signature, argsFit, Arg.fits]

theorem tFlipClock : Statement .tFlipClock := rfl

theorem tFlipGetQ : Statement .tFlipGetQ := rfl

theorem tFlipGetQNot : Statement .tFlipGetQNot := rfl

theorem tFlipReset : Statement .tFlipReset := rfl

theorem counterClock : Statement .counterClock := rfl

theorem counterToggleMode : Statement .counterToggleMode := rfl

theorem counterGetValue : Statement .counterGetValue := rfl

theorem counterGetBits : Statement .counterGetBits := rfl

theorem counterIsUpMode : Statement .counterIsUpMode := rfl

theorem counterReset : Statement .counterReset := rfl

theorem shiftSetDataInput (v : Bit) : Statement (.shiftSetDataInput v) := by
  simp [Statement, encode, call, Frame.wellFormed, signature, argsFit, Arg.fits]

theorem shiftClock : Statement .shiftClock := rfl

theorem shiftGetSerialOut : Statement .shiftGetSerialOut := rfl

theorem shiftGetBits : Statement .shiftGetBits := rfl

theorem shiftReset : Statement .shiftReset := rfl

theorem cpuStep : Statement .cpuStep := rfl

theorem cpuReset : Statement .cpuReset := rfl

theorem cpuLoadProgram (words : List Int) (startAddress : Int) : Statement (.cpuLoadProgram words startAddress) := by
  simp [Statement, encode, call, Frame.wellFormed, signature, argsFit, Arg.fits]

theorem cpuSetDataInMemory (address : Int) (value : Int) : Statement (.cpuSetDataInMemory address value) := by
  simp [Statement, encode, call, Frame.wellFormed, signature, argsFit, Arg.fits]

theorem cpuGetRegisterValue (r : Register) : Statement (.cpuGetRegisterValue r) := by
  simp [Statement, encode, call, Frame.wellFormed, signature, argsFit, Arg.fits]

theorem cpuGetFlagValue (f : Flag) : Statement (.cpuGetFlagValue f) := by
  simp [Statement, encode, call, Frame.wellFormed, signature, argsFit, Arg.fits]

theorem cpuGetMemoryState : Statement .cpuGetMemoryState := rfl

theorem cpuIsHalted : Statement .cpuIsHalted := rfl

theorem cpuGetLastActionDescription : Statement .cpuGetLastActionDescription := rfl

theorem cpuGetLastOutput : Statement .cpuGetLastOutput := rfl

theorem cpuDisassemble (instruction : Int) : Statement (.cpuDisassemble instruction) := by
  simp [Statement, encode, call, Frame.wellFormed, signature, argsFit, Arg.fits]

end Sys2Proof.Laws.EncodingWellFormed
end

