-- ==== Sys2Proof/Tests/Slice0.lean ====
section
/-!
SUPPORT. Small tests and witnesses. Expected values come from spec/: 95_test_vectors.md (the vector is named beside each
test), 30_encoding.md R103 and R111 for decoding. A theorem `witness_<Name>` shows states and operands that meet the
hypotheses of `Obligations.<Name>`, clause by clause, at boundary values.
-/

namespace Sys2Proof.Tests

open Sys2Proof Sys2Proof.Machine

/-- The operation ended in a next state of which `p` holds. -/
def nextIs (r : Result) (p : State → Bool) : Bool :=
  match r with
  | .next t => p t
  | .fault _ => false
  | .refused _ => false

/-- The machine after reset, with this memory, AC and C, and Z as R51 has it. -/
def place (mem : Memory) (ac : Nibble) (c : Bit) : State :=
  { State.reset with cpu := { State.reset.cpu with mem := mem, ac := ac, z := ac == 0#4, c := c } }

/-- PC, AC, MAR, IR, Z and C are these. -/
def cpuIs (pc ac mar : Nibble) (ir : Byte) (z c : Bit) (t : State) : Bool :=
  t.cpu.pc == pc && t.cpu.ac == ac && t.cpu.mar == mar && t.cpu.ir == ir && t.cpu.z == z && t.cpu.c == c

/-- What the decoder reads from a call. -/
def reads (id : BitVec 16) (args : List Arg) : Option Instr :=
  (decodeFrame { id := id, args := args }).toOption

/-- The caller's next call is this one. -/
def calling (id : BitVec 16) (args : List Arg) : State :=
  State.reset.setCalls [{ id := id, args := args }]

/-- The step ended in this refusal. -/
def refusedAs (r : Result) (why : Refusal) : Bool :=
  match r with
  | .next _ => false
  | .fault _ => false
  | .refused w => w == why

/-! ### WellFormed: an ill-formed call for each check is refused -/

theorem test_wellFormed_accepts : Frame.wellFormed { id := 0x0201#16, args :=
    [.bits [true, false, false, true], .bits [false, false, false, true], .bit true] } = true := by decide

theorem test_wellFormed_unknown_id : Frame.wellFormed { id := 0x0105#16, args := [] } = false ∧
    Frame.wellFormed { id := 0x1201#16, args := [] } = false ∧ Frame.wellFormed { id := 0x0000#16, args := [] } = false := by
  decide

theorem test_wellFormed_too_few_arguments :
    Frame.wellFormed { id := 0x0101#16, args := [.bit true, .bit true] } = false := by decide

theorem test_wellFormed_too_many_arguments :
    Frame.wellFormed { id := 0x0102#16, args := [.bit true] } = false := by decide

theorem test_wellFormed_wrong_kind :
    Frame.wellFormed { id := 0x1105#16, args := [.flag .z] } = false ∧
    Frame.wellFormed { id := 0x1104#16, args := [.int 3, .bit true] } = false ∧
    Frame.wellFormed { id := 0x1103#16, args := [.bits [], .int 0] } = false := by decide

theorem test_wellFormed_operand_length :
    Frame.wellFormed { id := 0x0301#16, args := [.bits [true, false, true], .bits [true, true, true, true]] } = false ∧
    Frame.wellFormed { id := 0x0201#16, args :=
      [.bits [true, false, true, true], .bits [true, true, true, true, true], .bit false] } = false := by decide

/-- The step names the reason: an unknown id, arguments of another kind, an operand of another length (R112, D6). -/
theorem test_step_refuses :
    refusedAs (step (calling 0x0105#16 [])) (.unknownCommand 0x0105#16) = true ∧
    refusedAs (step (calling 0x1105#16 [.flag .z])) (.badArguments 0x1105#16) = true ∧
    refusedAs (step (calling 0x0301#16 [.bits [true], .bits [true, true, true, true]])) (.operandLength 0x0301#16) = true := by
  decide

/-! ### Decoding: a word written out for every constructor (R103, R111) -/

theorem test_decode_words :
    decodeWord 0b00011110#8 = .lda 0b1110#4 ∧
    decodeWord 0b00101111#8 = .add 0b1111#4 ∧
    decodeWord 0b00111100#8 = .sta 0b1100#4 ∧
    decodeWord 0b01000000#8 = .out 0b0000#4 ∧
    decodeWord 0b11110111#8 = .hlt 0b0111#4 ∧
    decodeWord 0b00000001#8 = .nop0 0b0001#4 ∧
    decodeWord 0b01011010#8 = .nop5 0b1010#4 ∧
    decodeWord 0b01100010#8 = .nop6 0b0010#4 ∧
    decodeWord 0b01111001#8 = .nop7 0b1001#4 ∧
    decodeWord 0b10001111#8 = .nop8 0b1111#4 ∧
    decodeWord 0b10011010#8 = .nop9 0b1010#4 ∧
    decodeWord 0b10100101#8 = .nopA 0b0101#4 ∧
    decodeWord 0b10110011#8 = .nopB 0b0011#4 ∧
    decodeWord 0b11001000#8 = .nopC 0b1000#4 ∧
    decodeWord 0b11010110#8 = .nopD 0b0110#4 ∧
    decodeWord 0b11101111#8 = .nopE 0b1111#4 := by
  decide

theorem test_decode_full_adder :
    reads 0x0101#16 [.bit true, .bit false, .bit true] = some (.fullAdderUpdate true false true) ∧
    reads 0x0102#16 [] = some .fullAdderGetSum ∧
    reads 0x0103#16 [] = some .fullAdderGetCarryOut ∧
    reads 0x0104#16 [] = some .fullAdderReset := by
  decide

theorem test_decode_ripple_carry_adder_4bit :
    reads 0x0201#16 [.bits [true, false, true, true], .bits [true, true, false, false], .bit true] = some (.rippleAdderUpdate ⟨true, false, true, true⟩ ⟨true, true, false, false⟩ true) ∧
    reads 0x0202#16 [] = some .rippleAdderGetSum ∧
    reads 0x0203#16 [] = some .rippleAdderGetCarryOut ∧
    reads 0x0204#16 [] = some .rippleAdderReset := by
  decide

theorem test_decode_magnitude_comparator_4bit :
    reads 0x0301#16 [.bits [true, false, true, true], .bits [true, true, false, false]] = some (.comparatorCompare ⟨true, false, true, true⟩ ⟨true, true, false, false⟩) ∧
    reads 0x0302#16 [] = some .comparatorGetResult ∧
    reads 0x0303#16 [] = some .comparatorReset := by
  decide

theorem test_decode_mux_4to1 :
    reads 0x0401#16 [.bits [true, false, false, true, true], .bits [false, true]] = some (.mux4GetOutput [true, false, false, true, true] [false, true]) ∧
    reads 0x0402#16 [] = some .mux4Reset := by
  decide

theorem test_decode_mux_8to1 :
    reads 0x0501#16 [.bits [true, false, false, true, true], .bits [false, true]] = some (.mux8GetOutput [true, false, false, true, true] [false, true]) ∧
    reads 0x0502#16 [] = some .mux8Reset := by
  decide

theorem test_decode_decoder_3to8 :
    reads 0x0601#16 [.bit true, .bit false, .bit true, .bit true] = some (.decoderGetActiveOutput true false true true) ∧
    reads 0x0602#16 [] = some .decoderReset := by
  decide

theorem test_decode_encoder_8to3 :
    reads 0x0701#16 [.bit true, .int 5] = some (.encoderGetOutput true 5) ∧
    reads 0x0702#16 [] = some .encoderReset := by
  decide

theorem test_decode_bcd_to_7seg :
    reads 0x0801#16 [.int 5] = some (.sevenSegGetSegmentsFor 5) ∧
    reads 0x0802#16 [] = some .sevenSegReset := by
  decide

theorem test_decode_sr_latch_nor :
    reads 0x0901#16 [.bit true, .bit false] = some (.srNorUpdate true false) ∧
    reads 0x0902#16 [] = some .srNorGetQ ∧
    reads 0x0903#16 [] = some .srNorGetQNot ∧
    reads 0x0904#16 [] = some .srNorReset := by
  decide

theorem test_decode_sr_latch_nand :
    reads 0x0A01#16 [.bit true, .bit false] = some (.srNandUpdate true false) ∧
    reads 0x0A02#16 [] = some .srNandGetQ ∧
    reads 0x0A03#16 [] = some .srNandGetQNot ∧
    reads 0x0A04#16 [] = some .srNandReset := by
  decide

theorem test_decode_d_latch_level_sensitive :
    reads 0x0B01#16 [.bit true, .bit false] = some (.dLatchUpdate true false) ∧
    reads 0x0B02#16 [] = some .dLatchGetQ ∧
    reads 0x0B03#16 [] = some .dLatchGetQNot ∧
    reads 0x0B04#16 [] = some .dLatchReset := by
  decide

theorem test_decode_d_flipflop_master_slave :
    reads 0x0C01#16 [.bit true, .bit false] = some (.masterSlaveUpdate true false) ∧
    reads 0x0C02#16 [] = some .masterSlaveGetQ ∧
    reads 0x0C03#16 [] = some .masterSlaveGetQNot ∧
    reads 0x0C04#16 [] = some .masterSlaveReset := by
  decide

theorem test_decode_jk_flipflop_edge_triggered :
    reads 0x0D01#16 [.bit true, .bit false] = some (.jkSetInputs true false) ∧
    reads 0x0D02#16 [] = some .jkClock ∧
    reads 0x0D03#16 [] = some .jkGetQ ∧
    reads 0x0D04#16 [] = some .jkGetQNot ∧
    reads 0x0D05#16 [] = some .jkReset := by
  decide

theorem test_decode_t_flipflop_edge_triggered :
    reads 0x0E01#16 [.bit true] = some (.tFlipSetInput true) ∧
    reads 0x0E02#16 [] = some .tFlipClock ∧
    reads 0x0E03#16 [] = some .tFlipGetQ ∧
    reads 0x0E04#16 [] = some .tFlipGetQNot ∧
    reads 0x0E05#16 [] = some .tFlipReset := by
  decide

theorem test_decode_counter_4bit_sync_updown :
    reads 0x0F01#16 [] = some .counterClock ∧
    reads 0x0F02#16 [] = some .counterToggleMode ∧
    reads 0x0F03#16 [] = some .counterGetValue ∧
    reads 0x0F04#16 [] = some .counterGetBits ∧
    reads 0x0F05#16 [] = some .counterIsUpMode ∧
    reads 0x0F06#16 [] = some .counterReset := by
  decide

theorem test_decode_shift_register_4bit_serial :
    reads 0x1001#16 [.bit true] = some (.shiftSetDataInput true) ∧
    reads 0x1002#16 [] = some .shiftClock ∧
    reads 0x1003#16 [] = some .shiftGetSerialOut ∧
    reads 0x1004#16 [] = some .shiftGetBits ∧
    reads 0x1005#16 [] = some .shiftReset := by
  decide

theorem test_decode_cpu_core :
    reads 0x1101#16 [] = some .cpuStep ∧
    reads 0x1102#16 [] = some .cpuReset ∧
    reads 0x1103#16 [.ints [17, -3], .int 5] = some (.cpuLoadProgram [17, -3] 5) ∧
    reads 0x1104#16 [.int 5, .int (-2)] = some (.cpuSetDataInMemory 5 (-2)) ∧
    reads 0x1105#16 [.register .ir] = some (.cpuGetRegisterValue .ir) ∧
    reads 0x1106#16 [.flag .c] = some (.cpuGetFlagValue .c) ∧
    reads 0x1107#16 [] = some .cpuGetMemoryState ∧
    reads 0x1108#16 [] = some .cpuIsHalted ∧
    reads 0x1109#16 [] = some .cpuGetLastActionDescription ∧
    reads 0x110A#16 [] = some .cpuGetLastOutput ∧
    reads 0x110B#16 [.int 5] = some (.cpuDisassemble 5) := by
  decide

/-- The rows of the opcode table, numbered as it numbers them: the operand bits and the arguments are zeros. -/
theorem test_decodeTableWord : decodeTableWord 8 0x1E = some (.lda 14#4) ∧ decodeTableWord 8 0xF0 = some (.hlt 0#4) ∧
    decodeTableWord 16 0x0301 = some (.comparatorCompare ⟨false, false, false, false⟩ ⟨false, false, false, false⟩) ∧
    decodeTableWord 16 0x1105 = some (.cpuGetRegisterValue .pc) ∧ decodeTableWord 16 0x0105 = none ∧
    decodeTableWord 32 0 = none := by
  decide

/-- The step runs the word of a table row as the first instruction after reset. -/
theorem test_withFetchWord :
    nextIs (step (State.reset.withFetchWord 8 0xF0)) (fun t => t.cpu.halted && t.cpu.ir == 0xF0#8) = true ∧
    nextIs (step (State.reset.withFetchWord 16 0x0F01)) (fun t => t.counter.ff.e0.q && t.calls == []) = true := by
  decide

/-! ### The CPU's words: D-CPU, one step each -/

/-- V1: the low nibble is loaded, C cleared. -/
theorem test_lda_V1 : nextIs (step (place [(0, 0x15#8), (5, 0xF3#8)] 0#4 true))
    (cpuIs 1#4 3#4 5#4 0x15#8 false false) = true := by decide

/-- V2: a cell with a zero low nibble sets Z. -/
theorem test_lda_V2 : nextIs (step (place [(0, 0x15#8), (5, 0x10#8)] 0#4 false))
    (cpuIs 1#4 0#4 5#4 0x15#8 true false) = true := by decide

/-- V6: the operand is not masked to four bits before the sum: 0 + 16 > 15. -/
theorem test_add_V6 : nextIs (step (place [(0, 0x25#8), (5, 0x10#8)] 0#4 false))
    (cpuIs 1#4 0#4 5#4 0x25#8 true true) = true := by decide

/-- V3 (and S11): 9 + 8 = 17; and V5: 0 + 0 leaves C clear. -/
theorem test_add_V3_V5 :
    nextIs (step (place [(0, 0x25#8), (5, 0x08#8)] 9#4 false)) (cpuIs 1#4 1#4 5#4 0x25#8 false true) = true ∧
    nextIs (step (place [(0, 0x25#8)] 0#4 true)) (cpuIs 1#4 0#4 5#4 0x25#8 true false) = true := by decide

/-- V9: the cell takes the zero-extended AC, C is cleared, AC and Z stay. -/
theorem test_sta_V9 : nextIs (step (place [(0, 0x3C#8), (12, 0xAB#8)] 5#4 true))
    (fun t => cpuIs 1#4 5#4 12#4 0x3C#8 false false t && t.cpu.mem == [(0, 0x3C#8), (12, 0x05#8)]) = true := by decide

/-- P2, step 3: storing 0 into a cell unlists it, and it reads 0. -/
theorem test_sta_zero : nextIs (step (place [(0, 0x3C#8), (12, 0xAB#8)] 0#4 true))
    (fun t => cpuIs 1#4 0#4 12#4 0x3C#8 true false t && t.cpu.mem == [(0, 0x3C#8)] && t.cpu.mem.read 12#4 == 0#8) = true := by
  decide

/-- V10: an undrained output is overwritten. -/
theorem test_out_V10 : nextIs (step { place [(0, 0x40#8)] 1#4 true with
      cpu := { (place [(0, 0x40#8)] 1#4 true).cpu with out := some 9#4 } })
    (fun t => cpuIs 1#4 1#4 0#4 0x40#8 false false t && t.cpu.out == some 1#4) = true := by decide

/-- V11: an output of 0 is not the empty marker. -/
theorem test_out_V11 : nextIs (step (place [(0, 0x4F#8)] 0#4 false)) (fun t => t.cpu.out == some 0#4) = true := by decide

/-- V12. -/
theorem test_hlt_V12 : nextIs (step (place [(0, 0xF7#8)] 0#4 true))
    (fun t => cpuIs 1#4 0#4 0#4 0xF7#8 true false t && t.cpu.halted) = true := by decide

/-- V13: a NOP clears C. -/
theorem test_nop_V13 : nextIs (step (place [] 3#4 true)) (cpuIs 1#4 3#4 0#4 0x00#8 false false) = true := by decide

/-- V15: PC wraps from 15 to 0. -/
theorem test_nop_V15 : nextIs (step { place [] 3#4 true with cpu := { (place [] 3#4 true).cpu with pc := 15#4 } })
    (cpuIs 0#4 3#4 15#4 0x00#8 false false) = true := by decide

/-- V14, and the other opcodes of R104: each is executed as a NOP and the operand bits name no access. -/
theorem test_nops_V14 : ∀ w ∈ [0x5A#8, 0x6A#8, 0x7A#8, 0x8A#8, 0x9A#8, 0xAA#8, 0xBA#8, 0xCA#8, 0xDA#8, 0xEA#8],
    nextIs (step (place [(0, w), (10, 0xFF#8)] 3#4 true))
      (fun t => cpuIs 1#4 3#4 0#4 w false false t && t.cpu.mem == [(0, w), (10, 0xFF#8)] && !t.cpu.halted) = true := by
  decide

/-- V16: a halted step, called or not, changes nothing but the text. -/
theorem test_halted_V16 :
    nextIs (step { place [] 3#4 true with cpu := { (place [] 3#4 true).cpu with halted := true } })
      (fun t => cpuIs 0#4 3#4 0#4 0x00#8 false true t && t.cpu.halted) = true ∧
    nextIs (exec .cpuStep { place [] 3#4 true with cpu := { (place [] 3#4 true).cpu with halted := true } })
      (fun t => cpuIs 0#4 3#4 0#4 0x00#8 false true t && t.cpu.halted) = true := by
  decide

/-! ### The calls of the CPU: D-HOST -/

/-- H1: the word that would go to address 16 is dropped. -/
theorem test_loadProgram_H1 : nextIs (exec (.cpuLoadProgram [0x11, 0x22, 0x33] 14) State.reset)
    (fun t => t.cpu.mem == [(14, 0x11#8), (15, 0x22#8)]) = true := by decide

/-- H2: word 0 is dropped, word 1 masked. -/
theorem test_loadProgram_H2 : nextIs (exec (.cpuLoadProgram [0xAB, 0x1CD] (-1)) State.reset)
    (fun t => t.cpu.mem == [(0, 0xCD#8)]) = true := by decide

/-- H4. -/
theorem test_setData_H4 : nextIs (exec (.cpuSetDataInMemory 3 0x1FF) State.reset)
    (fun t => t.cpu.mem == [(3, 0xFF#8)]) = true := by decide

/-- H3, H5: an address outside 0 to 15 writes nothing. -/
theorem test_setData_H3_H5 :
    nextIs (exec (.cpuSetDataInMemory 16 5) (place [(0, 0x15#8)] 3#4 true)) (fun t => t.cpu.mem == [(0, 0x15#8)]) = true ∧
    nextIs (exec (.cpuSetDataInMemory (-1) 7) (place [(0, 0x15#8)] 3#4 true)) (fun t => t.cpu.mem == [(0, 0x15#8)]) = true := by
  decide

/-- H6 (and S9): the first call after an OUT of 1 returns some(1), the next one none. -/
theorem test_getLastOutput_H6 :
    nextIs (execAll [.out 0#4, .cpuGetLastOutput] (place [] 1#4 false)) (fun t => t.ret == .output (some 1#4)) = true ∧
    nextIs (execAll [.out 0#4, .cpuGetLastOutput, .cpuGetLastOutput] (place [] 1#4 false))
      (fun t => t.ret == .output none) = true := by
  decide

/-- H7: the normative mnemonics. -/
theorem test_disassemble_H7 :
    [0x1E#8, 0x2F#8, 0x3C#8, 0x40#8, 0xF0#8, 0x00#8, 0x5A#8, 0xEF#8].map mnemonicOf =
      [.lda, .add, .sta, .out, .hlt, .nop, .nop, .nop] := by decide

/-- The value is masked to 8 bits before it is disassembled (D28): 0x11E is LDA. -/
theorem test_disassemble_masks :
    nextIs (exec (.cpuDisassemble 0x11E) State.reset)
      (fun t => match t.ret with | .disassembly m _ => m == .lda | _ => false) = true := by decide

/-- R285, R286, R288: each name returns its own register or flag. -/
theorem test_cpu_accessors :
    (let s : State := { State.reset with cpu :=
      { State.reset.cpu with pc := 1#4, ac := 2#4, ir := 0x73#8, mar := 4#4, z := false, c := true, halted := true } }
    nextIs (exec (.cpuGetRegisterValue .pc) s) (fun t => t.ret == .value 1) &&
    nextIs (exec (.cpuGetRegisterValue .ac) s) (fun t => t.ret == .value 2) &&
    nextIs (exec (.cpuGetRegisterValue .ir) s) (fun t => t.ret == .value 115) &&
    nextIs (exec (.cpuGetRegisterValue .mar) s) (fun t => t.ret == .value 4) &&
    nextIs (exec (.cpuGetFlagValue .z) s) (fun t => t.ret == .bit false) &&
    nextIs (exec (.cpuGetFlagValue .c) s) (fun t => t.ret == .bit true) &&
    nextIs (exec .cpuIsHalted s) (fun t => t.ret == .bit true)) = true := by decide

/-- R287: cell 0 first. -/
theorem test_getMemoryState : nextIs (exec .cpuGetMemoryState (place [(0, 0x15#8), (15, 0xF3#8)] 0#4 false))
    (fun t => t.ret == .memory [0x15#8, 0, 0, 0, 0, 0, 0, 0, 0, 0, 0, 0, 0, 0, 0, 0xF3#8]) = true := by decide

/-- R363: Z is set, whatever stood before. -/
theorem test_cpuReset : nextIs (exec .cpuReset
      { place [(3, 0x15#8)] 3#4 true with cpu := { (place [(3, 0x15#8)] 3#4 true).cpu with
          pc := 7#4, mar := 2#4, ir := 0x15#8, halted := true, out := some 3#4 } })
    (fun t => cpuIs 0#4 0#4 0#4 0x00#8 true false t && !t.cpu.halted && t.cpu.out == none && t.cpu.mem == []) = true := by
  decide

/-! ### Combinational components -/

/-- D-FA, all eight rows: a, b, cin, sum, cout. -/
theorem test_fullAdder_table : ∀ r ∈
    [(false, false, false, false, false), (false, false, true, true, false), (false, true, false, true, false),
     (false, true, true, false, true), (true, false, false, true, false), (true, false, true, false, true),
     (true, true, false, false, true), (true, true, true, true, true)],
    nextIs (exec (.fullAdderUpdate r.1 r.2.1 r.2.2.1) State.reset)
      (fun t => t.fullAdder == { sum := r.2.2.2.1, cout := r.2.2.2.2 }) = true := by decide

/-- D-RCA: 9 + 8 = 17; the carry in ripples through all stages of 15 + 0. -/
theorem test_rippleAdder :
    nextIs (execAll [.rippleAdderUpdate ⟨true, false, false, true⟩ ⟨false, false, false, true⟩ false, .rippleAdderGetSum]
      State.reset) (fun t => t.ret == .bits [true, false, false, false] && t.rippleAdder.fa.e3.cout) = true ∧
    nextIs (execAll [.rippleAdderUpdate ⟨true, true, true, true⟩ ⟨false, false, false, false⟩ true, .rippleAdderGetSum]
      State.reset) (fun t => t.ret == .bits [false, false, false, false] && t.rippleAdder.fa.e3.cout) = true := by
  decide

/-- D-RCA: 7 + 8 = 15 has no carry out. -/
theorem test_rippleAdder_carryOut :
    nextIs (execAll [.rippleAdderUpdate ⟨true, true, true, false⟩ ⟨false, false, false, true⟩ false, .rippleAdderGetCarryOut]
      State.reset) (fun t => t.ret == .bit false && rippleSum t.rippleAdder == ⟨true, true, true, true⟩) = true := by
  decide

/-- D-CMP; element 3 is the most significant: 0101 < 0110, 1000 > 0111, 0001 > 0000, 1111 = 1111. -/
theorem test_compare :
    compareQuads ⟨true, false, true, false⟩ ⟨false, true, true, false⟩ = .less ∧
    compareQuads ⟨false, false, false, true⟩ ⟨true, true, true, false⟩ = .greater ∧
    compareQuads ⟨true, false, false, false⟩ ⟨false, false, false, false⟩ = .greater ∧
    compareQuads ⟨true, true, true, true⟩ ⟨true, true, true, true⟩ = .equal := by decide

/-- R140, R141: the outcome is returned and cached. -/
theorem test_compare_caches :
    nextIs (exec (.comparatorCompare ⟨true, true, true, false⟩ ⟨false, false, false, true⟩) State.reset)
      (fun t => t.ret == .ordering .less && nextIs (exec .comparatorGetResult t) (fun u => u.ret == .ordering .less)) = true := by
  decide

/-- D-MUX, mux_4to1: the select word's first bit is the most significant; a list of another length gives 0. -/
theorem test_mux4 :
    muxOutput 4 2 [false, true, false, false] [false, true] = true ∧
    muxOutput 4 2 [false, false, true, false] [true, false] = true ∧
    muxOutput 4 2 [false, true, true, true] [false, false] = false ∧
    muxOutput 4 2 [true, true, true] [false, false] = false ∧
    muxOutput 4 2 [true, true, true, true] [true] = false := by decide

/-- D-MUX, mux_8to1. -/
theorem test_mux8 :
    muxOutput 8 3 [false, false, false, false, false, true, false, false] [true, false, true] = true ∧
    muxOutput 8 3 [true, true, true, true, true, true, true, false] [true, true, true] = false ∧
    muxOutput 8 3 [true, false, false, false, false, false, false, false] [false, false, false] = true ∧
    muxOutput 8 3 [true, true, true, true, true, true, true, true] [true, true] = false := by decide

/-- D-DEC: 011 is line 3, 110 line 6, disabled none. -/
theorem test_decoder : activeLine true false true true = some 3 ∧ activeLine true true true false = some 6 ∧
    activeLine false true true true = none := by decide

/-- D-ENC. -/
theorem test_encoder : encodeLine true 3 = [false, true, true] ∧ encodeLine true 6 = [true, true, false] ∧
    encodeLine true 8 = [false, false, false] ∧ encodeLine true (-1) = [false, false, false] ∧
    encodeLine false 5 = [false, false, false] := by decide

/-- D-SEG: all off outside 0 to 15, whatever the table. -/
theorem test_sevenSeg_outside : ∀ n ∈ [(-1 : Int), 16, 100],
    segmentsFor Config.segTable n = [false, false, false, false, false, false, false] := by
  intro n hn
  simp only [List.mem_cons, List.not_mem_nil, or_false] at hn
  rcases hn with h | h | h <;> subst h <;> rfl

/-- D-SEG under the suggested table of R160: 8 is all on, 1 is b and c. -/
theorem test_sevenSeg_suggested :
    segmentsFor Config.suggestedSegTable 8 = [true, true, true, true, true, true, true] ∧
    segmentsFor Config.suggestedSegTable 1 = [false, true, true, false, false, false, false] := by decide

/-! ### Latches and flip-flops -/

/-- D-SRNOR, in its order from reset. -/
theorem test_srNor :
    norLatch false false ⟨false, true⟩ = ⟨false, true⟩ ∧ norLatch true false ⟨false, true⟩ = ⟨true, false⟩ ∧
    norLatch false false ⟨true, false⟩ = ⟨true, false⟩ ∧ norLatch false true ⟨true, false⟩ = ⟨false, true⟩ ∧
    norLatch true true ⟨false, true⟩ = ⟨false, false⟩ ∧ norLatch false false ⟨false, false⟩ = ⟨false, false⟩ := by decide

/-- D-SRNAND, in its order from reset. -/
theorem test_srNand :
    nandLatch true true ⟨false, true⟩ = ⟨false, true⟩ ∧ nandLatch false true ⟨false, true⟩ = ⟨true, false⟩ ∧
    nandLatch true false ⟨true, false⟩ = ⟨false, true⟩ ∧ nandLatch false false ⟨false, true⟩ = ⟨true, true⟩ ∧
    nandLatch true true ⟨true, true⟩ = ⟨true, true⟩ := by decide

/-- R182, R186: Q' is the stored bit, not the complement of Q. -/
theorem test_latch_outputs :
    nextIs (execAll [.srNorUpdate true true, .srNorGetQNot] State.reset) (fun t => t.ret == .bit false) = true ∧
    nextIs (execAll [.srNandUpdate false false, .srNandGetQNot] State.reset) (fun t => t.ret == .bit true) = true := by decide

/-- D-DL. -/
theorem test_dLatch :
    nextIs (exec (.dLatchUpdate true false) State.reset) (fun t => t.dLatch == ⟨false, true⟩) = true ∧
    nextIs (exec (.dLatchUpdate true true) State.reset) (fun t => t.dLatch == ⟨true, false⟩) = true := by decide

/-- D-MSD, its first rows: the output follows at the falling transition only. -/
theorem test_masterSlave :
    masterSlaveUpdate true true resetMasterSlave = ⟨⟨true, false⟩, ⟨false, true⟩⟩ ∧
    masterSlaveUpdate true false ⟨⟨true, false⟩, ⟨false, true⟩⟩ = ⟨⟨true, false⟩, ⟨true, false⟩⟩ ∧
    masterSlaveUpdate false true ⟨⟨true, false⟩, ⟨true, false⟩⟩ = ⟨⟨false, true⟩, ⟨true, false⟩⟩ := by decide

/-- D-JK: Q(t), J, K, Q(t+1). -/
theorem test_jk_table : ∀ r ∈
    [(false, false, false, false), (true, false, false, true), (false, false, true, false), (true, false, true, false),
     (false, true, false, true), (true, true, false, true), (false, true, true, true), (true, true, true, false)],
    nextIs (exec .jkClock { State.reset with jk := ⟨r.1, r.2.1, r.2.2.1⟩ })
      (fun t => t.jk == ⟨r.2.2.2, r.2.1, r.2.2.1⟩) = true := by decide

/-- D-JK: from reset, staging (1,0) leaves Q at 0. -/
theorem test_jk_stages : nextIs (exec (.jkSetInputs true false) State.reset) (fun t => t.jk == ⟨false, true, false⟩) = true := by
  decide

/-- D-T: T is staged without a change of Q; a clock toggles Q and keeps T. -/
theorem test_tFlip :
    nextIs (exec (.tFlipSetInput true) State.reset) (fun t => t.tFlip == ⟨false, true⟩) = true ∧
    nextIs (exec .tFlipClock { State.reset with tFlip := ⟨false, true⟩ }) (fun t => t.tFlip == ⟨true, true⟩) = true ∧
    nextIs (exec .tFlipClock { State.reset with tFlip := ⟨true, false⟩ }) (fun t => t.tFlip == ⟨true, false⟩) = true := by
  decide

/-! ### Composite circuits -/

/-- D-CNT-3: the excitation and the next value, up from 7 and 5, down from 8 and 6. -/
theorem test_counter_excitation :
    excitation true ⟨true, true, true, false⟩ = ⟨true, true, true, true⟩ ∧
    excitation true ⟨true, false, true, false⟩ = ⟨true, true, false, false⟩ ∧
    excitation false ⟨false, false, false, true⟩ = ⟨true, true, true, true⟩ ∧
    excitation false ⟨false, true, true, false⟩ = ⟨true, true, false, false⟩ := by decide

/-- D-CNT-2, D-CNT-4: down from 0 is 15; in down mode 5 is followed by 4. -/
theorem test_counter_down :
    nextIs (execAll [.counterToggleMode, .counterClock, .counterGetValue] State.reset) (fun t => t.ret == .value 15) = true ∧
    nextIs (execAll [.counterToggleMode, .counterClock, .counterGetValue]
      { State.reset with counter := ⟨⟨⟨true, true⟩, ⟨false, false⟩, ⟨true, false⟩, ⟨false, false⟩⟩, true⟩ })
      (fun t => t.ret == .value 4 && !t.counter.up) = true := by decide

/-- D-SR4: the staged bit enters at bits[0], the old bits[3] is lost, dataIn persists. -/
theorem test_shift :
    shiftStep ⟨⟨false, false, false, true⟩, true⟩ = ⟨⟨true, false, false, false⟩, true⟩ ∧
    shiftStep ⟨⟨false, true, false, false⟩, false⟩ = ⟨⟨false, false, true, false⟩, false⟩ := by decide

/-- D-SR4: the serial output is bits[3], and the bits are listed bits[0] first. -/
theorem test_shift_outputs :
    nextIs (exec .shiftGetSerialOut { State.reset with shift := ⟨⟨false, false, false, true⟩, false⟩ })
      (fun t => t.ret == .bit true) = true ∧
    nextIs (exec .shiftGetBits { State.reset with shift := ⟨⟨true, true, false, false⟩, true⟩ })
      (fun t => t.ret == .bits [true, true, false, false]) = true := by decide

/-! ### Witnesses for the statements with hypotheses -/

theorem witness_WordsDecodeByTheOpcodeMap :
    (∀ opcode ∈ [0b0001#4, 0b0010#4, 0b0011#4, 0b0100#4, 0b1111#4], decodeWord (opcode ++ 15#4) ≠ .nop0 15#4) ∧
    (0b0000#4 = 0b0000#4 ∨ (5 ≤ (0b0000#4).toNat ∧ (0b0000#4).toNat ≤ 14)) ∧
    (5 ≤ (0b0101#4).toNat ∧ (0b0101#4).toNat ≤ 14) ∧ (5 ≤ (0b1110#4).toNat ∧ (0b1110#4).toNat ≤ 14) := by decide

theorem witness_StepRunsTheDecodedWord :
    (place [(0, 0x15#8), (5, 0xF3#8)] 0#4 true).calls = [] ∧ (place [(0, 0x15#8), (5, 0xF3#8)] 0#4 true).cpu.halted = false := by
  decide

theorem witness_StepMakesTheNextCall :
    (calling 0x0D01#16 [.bit true, .bit false]).calls = { id := 0x0D01#16, args := [.bit true, .bit false] } :: [] ∧
    reads 0x0D01#16 [.bit true, .bit false] = some (.jkSetInputs true false) := by decide

/-- One state for each of the three clauses. -/
theorem witness_StepRefusesExactlyIllFormedCalls :
    ((calling 0x110B#16 [.int 30]).calls = { id := 0x110B#16, args := [.int 30] } :: [] ∧
      Frame.wellFormed { id := 0x110B#16, args := [.int 30] } = true) ∧
    ((calling 0x110C#16 []).calls = { id := 0x110C#16, args := [] } :: [] ∧ signature (0x110C#16).toNat = none) ∧
    ((calling 0x0101#16 [.bit true]).calls = { id := 0x0101#16, args := [.bit true] } :: [] ∧
      signature (0x0101#16).toNat = some [.bit, .bit, .bit] ∧ argsFit [.bit true] [.bit, .bit, .bit] = false) := by decide

/-- Either operand one bit short or one bit long. -/
theorem witness_WrongOperandLengthIsRefused :
    ¬([true, true, true].length = 4 ∧ [true, true, true, true].length = 4) ∧
    ¬([true, true, true, true].length = 4 ∧ [true, true, true, true, true].length = 4) := by decide

theorem witness_CpuStepCallRunsTheWordAtPc : (place [(0, 0xF7#8)] 3#4 true).cpu.halted = false := by decide

theorem witness_StaStoresTheAccumulator : (place [(0, 0x3C#8), (15, 0xAB#8)] 5#4 true).cpu.mem.wf = true := by decide

/-- The NOP rows at both ends, and states whose word at PC is such a one. -/
theorem witness_NopClearsOnlyTheCarry :
    ∀ w ∈ [0x00#8, 0x5F#8, 0xEF#8], (place [(0, w)] 3#4 true).cpu.halted = false ∧
      opcodeOf (Memory.read [(0, w)] 0#4) ∉ [0b0001#4, 0b0010#4, 0b0011#4, 0b0100#4, 0b1111#4] := by decide

/-- Instructions of the first clause: the first and the last NOP row. -/
theorem witness_NopClearsOnlyTheCarry_rows :
    ∀ i ∈ [Instr.nop0 15#4, .nopE 0#4], ∃ x ∈ [15#4, 0#4], i ∈
      [Instr.nop0 x, .nop5 x, .nop6 x, .nop7 x, .nop8 x, .nop9 x, .nopA x, .nopB x, .nopC x, .nopD x, .nopE x] := by decide

/-- A state not halted with a HLT at PC, and calls of several components without the CPU's reset. -/
theorem witness_HltHaltsTheCpu :
    (place [(0, 0xF7#8)] 0#4 true).cpu.halted = false ∧
    (place [(0, 0xF7#8)] 0#4 true).cpu.mem.read 0#4 = (0b1111#4 ++ 7#4 : Byte) ∧
    Instr.cpuReset ∉ [Instr.cpuLoadProgram [0x1E] 0, .cpuStep, .counterReset, .cpuGetLastOutput] ∧
    ∀ i ∈ [Instr.cpuLoadProgram [0x1E] 0, .cpuStep, .counterReset, .cpuGetLastOutput], ∃ f, encode i = .call f := by
  refine ⟨by decide, by decide, by decide, ?_⟩
  intro i hi
  simp only [List.mem_cons, List.not_mem_nil, or_false] at hi
  rcases hi with h | h | h | h <;> subst h <;> exact ⟨_, rfl⟩

theorem witness_HaltedStepWritesOnlyTheText :
    (place [] 3#4 true |>.setCpu { (place [] 3#4 true).cpu with halted := true }).cpu.halted = true := by decide

/-- One state for each clause: an ADD, an LDA, and the others' opcodes at both ends. -/
theorem witness_EveryStepWritesTheFlags :
    (place [(0, 0x25#8)] 9#4 false).cpu.halted = false ∧
    opcodeOf ((place [(0, 0x25#8)] 9#4 false).cpu.mem.read 0#4) = 0b0010#4 ∧
    opcodeOf ((place [(0, 0x15#8)] 9#4 false).cpu.mem.read 0#4) = 0b0001#4 ∧
    opcodeOf ((place [] 9#4 false).cpu.mem.read 0#4) ∉ [0b0001#4, 0b0010#4] ∧
    opcodeOf ((place [(0, 0x30#8)] 9#4 false).cpu.mem.read 0#4) ∉ [0b0001#4, 0b0010#4] ∧
    opcodeOf ((place [(0, 0xFF#8)] 9#4 false).cpu.mem.read 0#4) ∉ [0b0001#4, 0b0010#4] := by decide

theorem witness_EveryStepAdvancesInAddressOrder :
    (State.reset.setCpu { State.reset.cpu with pc := 15#4 }).cpu.halted = false := by decide

/-- An STA to the next address, also across the wrap from 15 to 0. -/
theorem witness_NextFetchSeesTheStore :
    ((place [(0, 0x31#8), (1, 0xF0#8)] 7#4 true).calls = [] ∧ (place [(0, 0x31#8), (1, 0xF0#8)] 7#4 true).cpu.halted = false ∧
      (place [(0, 0x31#8), (1, 0xF0#8)] 7#4 true).cpu.mem.wf = true ∧
      Memory.read [(0, 0x31#8), (1, 0xF0#8)] 0#4 = (0b0011#4 ++ (0#4 + 1#4) : Byte)) ∧
    Memory.wf [(0, 0xF0#8), (15, 0x30#8)] = true ∧
    Memory.read [(0, 0xF0#8), (15, 0x30#8)] 15#4 = (0b0011#4 ++ (15#4 + 1#4) : Byte) := by decide

theorem witness_CpuHaltsWithinSixteenStepsOrNever :
    (place [(15, 0xF0#8)] 0#4 false).calls = [] ∧ (place [(15, 0xF0#8)] 0#4 false).cpu.halted = false ∧
    (place [(15, 0xF0#8)] 0#4 false).cpu.mem.wf = true := by decide

theorem witness_EveryStepKeepsTheInvariant :
    (place [(0, 0x15#8), (5, 0xF3#8)] 0#4 true).inv = true ∧
    ∃ t, step (place [(0, 0x15#8), (5, 0xF3#8)] 0#4 true) = .next t :=
  ⟨by decide, _, rfl⟩

/-- A canonical memory, addresses and values at the ends of their ranges and beyond them. -/
theorem witness_SetDataWritesAtMostOneCell :
    Memory.wf [(0, 0x15#8), (15, 0xF3#8)] = true ∧
    (((0#4).toNat : Int) = 0 ∧ (0 : Int) ≤ 0) ∧ (((15#4).toNat : Int) = 15 ∧ (0 : Int) ≤ 0x1FF) ∧
    ((0#4).toNat : Int) ≠ -1 ∧ ((15#4).toNat : Int) ≠ 16 ∧ ((15#4).toNat : Int) ≠ 0 := by decide

/-- Words 1 and 2 of three from address -1 fit cells 0 and 1; cell 2 takes none. -/
theorem witness_LoadProgramWritesTheWordsThatFit :
    Memory.wf [(0, 0x15#8), (15, 0xF3#8)] = true ∧
    ([0xAB, 0x1CD, 7] : List Int)[1]? = some 0x1CD ∧ ((0#4).toNat : Int) = -1 + (1 : Nat) ∧ (0 : Int) ≤ 0x1CD ∧
    ([0xAB, 0x1CD, 7] : List Int)[2]? = some 7 ∧ ((1#4).toNat : Int) = -1 + (2 : Nat) ∧
    ∀ k : Fin 3, ((2#4).toNat : Int) ≠ -1 + (k.val : Nat) := by decide

/-- The ends of each mnemonic's opcodes, and a value above 255. -/
theorem witness_DisassembleNamesTheMnemonic :
    (∀ v ∈ [(0x00 : Int), 0x10, 0x1F, 0x20, 0x2F, 0x30, 0x3F, 0x40, 0x4F, 0x50, 0xEF, 0xF0, 0xFF, 0x11E], 0 ≤ v) ∧
    ([0x00, 0x10, 0x20, 0x30, 0x40, 0x50, 0xEF, 0xF0, 0x11E] : List Int).map (fun v => v.toNat / 16 % 16) =
      [0, 1, 2, 3, 4, 5, 14, 15, 1] := by decide

theorem witness_AccessorsWriteNothing : isAccessor .srNorGetQ = true ∧ isAccessor (.cpuDisassemble (-1)) = true := by decide

theorem witness_ComponentsDoNotInteract :
    (∃ t, exec (.fullAdderUpdate true true false) State.reset = .next t) ∧ componentOf (.fullAdderUpdate true true false) = 1 ∧
    (∃ t, exec (.lda 0#4) State.reset = .next t) ∧ componentOf (.lda 0#4) = 17 ∧ componentOf .shiftClock = 16 :=
  ⟨⟨_, rfl⟩, by decide, ⟨_, rfl⟩, by decide, by decide⟩

/-- The first and the last data bit of each multiplexer. -/
theorem witness_MuxSelectsTheIndexedBit :
    [true, false, false, false][2 * false.toNat + false.toNat]? = some true ∧
    [true, true, true, false][2 * true.toNat + true.toNat]? = some false ∧
    [true, false, false, false, false, false, false, false][4 * false.toNat + 2 * false.toNat + false.toNat]? = some true ∧
    [true, true, true, true, true, true, true, false][4 * true.toNat + 2 * true.toNat + true.toNat]? = some false := by decide

/-- Too short, too long, and the other multiplexer's lengths. -/
theorem witness_MuxOfWrongLengthReturnsZero :
    ¬([true, true, true].length = 4 ∧ [true, true].length = 2) ∧ ¬([true, true, true, true].length = 4 ∧ [true].length = 2) ∧
    ¬(([] : List Bit).length = 8 ∧ [true, true, true].length = 3) ∧
    ¬([true, true, true, true, true, true, true, true, true].length = 8 ∧ [true, true, true].length = 3) := by decide

/-- Both ends of the range, and just outside, and disabled. -/
theorem witness_EncoderCodesTheIndex :
    (true = true ∧ (0 : Int) ≤ 0 ∧ (0 : Int) ≤ 7) ∧ (true = true ∧ (0 : Int) ≤ 7 ∧ (7 : Int) ≤ 7) ∧
    ¬(true = true ∧ (0 : Int) ≤ 8 ∧ (8 : Int) ≤ 7) ∧ ¬(true = true ∧ (0 : Int) ≤ -1 ∧ (-1 : Int) ≤ 7) ∧
    ¬(false = true ∧ (0 : Int) ≤ 5 ∧ (5 : Int) ≤ 7) := by decide

theorem witness_SevenSegmentLooksUpTheTable :
    (0 : Int) = (0 : Fin 16).val ∧ (15 : Int) = (15 : Fin 16).val ∧ ((-1 : Int) < 0 ∨ 15 < (-1 : Int)) ∧
    ((16 : Int) < 0 ∨ 15 < (16 : Int)) := by decide

/-- The two latches hold the same pair after reset; set and both-active are the two clauses. -/
theorem witness_NandMirrorsNor : State.reset.srNor = State.reset.srNand ∧ (true && false) = false ∧ (true && true) = true := by
  decide

theorem witness_LatchOutputsAreReturned : State.reset.inv = true := by decide

theorem witness_MasterSlaveChangesOnFallingEdgeOnly : State.reset.masterSlave = ⟨⟨false, true⟩, ⟨false, true⟩⟩ := by decide

theorem witness_CounterClockCountsByOne : State.reset.counter.up = true ∧
    ({ State.reset with counter := { State.reset.counter with up := false } }).counter.up = false := by decide

theorem witness_CounterClocksGoRoundModulo16 : State.reset.counter.up = true ∧
    ({ State.reset with counter := { State.reset.counter with up := false } }).counter.up = false :=
  witness_CounterClockCountsByOne

/-- Both values of enable. -/
theorem witness_DecoderActivatesTheAddressedLine : ∃ off on : Bit, off = false ∧ on = true := ⟨false, true, rfl, rfl⟩

/-- The four staged pairs. -/
theorem witness_JkClockFollowsTheCharacteristicLaw : ∀ j k : Bit,
    (j, k) = (false, false) ∨ (j, k) = (false, true) ∨ (j, k) = (true, false) ∨ (j, k) = (true, true) := by decide

end Sys2Proof.Tests
end

section
/-! PROOFS. Accessors (R15): each returns a value read off the state, and that value does not depend on `ret`. -/

namespace Sys2Proof.Machine

/-- An operation that only reads: it returns a value computed from the state, and writes nothing else. The value is the same
whatever was returned before it, which is what makes a second call give the first one's answer (R15). -/
def ReadsOnly (op : State → Result) : Prop :=
  ∃ read : State → Ret, (∀ s, op s = give (read s) s) ∧ ∀ s r, read (s.setRet r) = read s

theorem setRet_setRet (s : State) (r r' : Ret) : (s.setRet r).setRet r' = s.setRet r' := rfl

theorem give_eq_next (r : Ret) (s : State) : give r s = .next (s.setRet r) := rfl

/-- Two calls in a row of an operation that only reads end in the same state. -/
theorem ReadsOnly.idempotent {op : State → Result} (h : ReadsOnly op) (s : State) :
    ∃ r, op s = .next (s.setRet r) ∧ op (s.setRet r) = .next (s.setRet r) := by
  obtain ⟨read, returns, ignoresRet⟩ := h
  have second : op (s.setRet (read s)) = .next (s.setRet (read s)) := by
    rw [returns, ignoresRet, give_eq_next, setRet_setRet]
  exact ⟨read s, returns s, second⟩

/-- Every accessor reads one field of one component, or (the pure components and `disassemble`, R35, R107) its own arguments
alone: never `ret`. The other operations are no accessors. -/
theorem readsOnly_of_isAccessor : ∀ {i : Instr}, isAccessor i = true → ReadsOnly (exec i)
  | .fullAdderGetSum, _ | .fullAdderGetCarryOut, _ | .rippleAdderGetSum, _ | .rippleAdderGetCarryOut, _
  | .comparatorGetResult, _
  | .mux4GetOutput .., _ | .mux8GetOutput .., _ | .decoderGetActiveOutput .., _ | .encoderGetOutput .., _
  | .sevenSegGetSegmentsFor .., _
  | .srNorGetQ, _ | .srNorGetQNot, _ | .srNandGetQ, _ | .srNandGetQNot, _ | .dLatchGetQ, _ | .dLatchGetQNot, _
  | .masterSlaveGetQ, _ | .masterSlaveGetQNot, _ | .jkGetQ, _ | .jkGetQNot, _ | .tFlipGetQ, _ | .tFlipGetQNot, _
  | .counterGetValue, _ | .counterGetBits, _ | .counterIsUpMode, _ | .shiftGetSerialOut, _ | .shiftGetBits, _
  | .cpuGetRegisterValue .., _ | .cpuGetFlagValue .., _ | .cpuGetMemoryState, _ | .cpuIsHalted, _
  | .cpuGetLastActionDescription, _ | .cpuDisassemble .., _ =>
    ⟨_, fun _ => rfl, fun _ _ => rfl⟩

/-- `getLastOutput` called twice: the first call returns the buffer's content and drains it, the second finds it empty
(R290). -/
theorem getLastOutput_twice (s : State) :
    ∃ t u, exec .cpuGetLastOutput s = .next t ∧ exec .cpuGetLastOutput t = .next u ∧
      t.ret = .output s.cpu.out ∧ u.ret = .output none :=
  ⟨_, _, rfl, rfl, rfl, rfl⟩

/-- A machine with the nibble 5 waiting in the CPU's output buffer. -/
def fiveInOutputBuffer : State :=
  State.reset.setCpu { State.reset.cpu with out := some 5#4 }

/-- Settles O30: the accessors by what they read, `getLastOutput` by the full buffer it drains. -/
theorem accessorsWriteNothing : Obligations.AccessorsWriteNothing := by
  unfold Obligations.AccessorsWriteNothing
  constructor
  · intro i s accessor
    exact (readsOnly_of_isAccessor accessor).idempotent s
  · obtain ⟨t, u, first, second, full, drained⟩ := getLastOutput_twice fiveInOutputBuffer
    refine ⟨fiveInOutputBuffer, t, u, first, second, ?_⟩
    rw [full, drained]
    simp [fiveInOutputBuffer]

end Sys2Proof.Machine
end

section
/-! PROOFS. The flags after a `step()` (R50): a word's whole `step()` as its opcode's housekeeping and execute phase on the
fetched CPU, and what these two write of Z and C. -/

namespace Sys2Proof.Machine

/-- The execute phase of a word (R264): the eleven NOP opcodes have none. -/
def executePhase (w : Byte) : Cpu → Cpu :=
  if opcodeOf w = 0b0001#4 then loadEffect (operandOf w)
  else if opcodeOf w = 0b0010#4 then addEffect (operandOf w)
  else if opcodeOf w = 0b0011#4 then storeEffect (operandOf w)
  else if opcodeOf w = 0b0100#4 then outEffect
  else if opcodeOf w = 0b1111#4 then haltEffect
  else fun c => c

/-- The opcode field bit by bit, the way the dispatch reads it. -/
theorem opcodeOf_eq_bits (w : Byte) :
    opcodeOf w = BitVec.ofBool (w.getLsbD 7) ++ BitVec.ofBool (w.getLsbD 6) ++
      BitVec.ofBool (w.getLsbD 5) ++ BitVec.ofBool (w.getLsbD 4) := by
  revert w; decide

/-- The dispatch over all sixteen opcodes: each word is finished under its own opcode, with its execute phase. -/
theorem executeWord_eq_finishWord (w : Byte) (s : State) :
    executeWord w s = finishWord (opcodeOf w) (executePhase w) s := by
  have opcode := opcodeOf_eq_bits w
  unfold executeWord
  split
  all_goals
    rename_i bit7 bit6 bit5 bit4
    rw [bit7, bit6, bit5, bit4] at opcode
    simp only [executePhase, opcode]
    rfl

/-- The CPU after the `step()` of a CPU that is not halted, but for `desc` (R261 to R264). -/
def steppedCpu (c : Cpu) : Cpu :=
  executePhase (c.mem.read c.pc) (housekeeping (opcodeOf (c.mem.read c.pc)) (fetchWord c))

theorem exec_cpuStep_of_running {s : State} (running : s.cpu.halted = false) :
    exec .cpuStep s = .next ((describe ((fetch s).setCpu (steppedCpu s.cpu))).setRet .none) := by
  have unhalted : exec .cpuStep s = executeWord (fetch s).cpu.ir (fetch s) := by
    change execCpuStep s = _
    simp [execCpuStep, running]
  rw [unhalted, executeWord_eq_finishWord]
  exact (finishWord_next_iff ..).mpr rfl

section Flags

/-! What an execute phase writes of the flags and AC, by opcode. -/

variable {w : Byte} (c : Cpu)

theorem executePhase_of_lda (lda : opcodeOf w = 0b0001#4) : executePhase w = loadEffect (operandOf w) :=
  if_pos lda

theorem executePhase_of_add (add : opcodeOf w = 0b0010#4) : executePhase w = addEffect (operandOf w) := by
  simp [executePhase, add]

/-- ADD alone writes C in its execute phase. -/
theorem executePhase_c_of_not_add (notAdd : opcodeOf w ≠ 0b0010#4) : (executePhase w c).c = c.c := by
  simp only [executePhase, if_neg notAdd]
  split_ifs <;> rfl

/-- The opcodes but LDA and ADD leave Z alone. -/
theorem executePhase_z_of_others (others : opcodeOf w ∉ [0b0001#4, 0b0010#4]) : (executePhase w c).z = c.z := by
  obtain ⟨notLda, notAdd⟩ : opcodeOf w ≠ 0b0001#4 ∧ opcodeOf w ≠ 0b0010#4 := by simpa using others
  rw [executePhase, if_neg notLda, if_neg notAdd]
  split_ifs <;> rfl

/-! The flags of a whole step. -/

/-- Every opcode but ADD clears C, by the housekeeping, and its execute phase does not write it again. -/
theorem steppedCpu_c_of_not_add (notAdd : opcodeOf (c.mem.read c.pc) ≠ 0b0010#4) : (steppedCpu c).c = false := by
  rw [steppedCpu, executePhase_c_of_not_add _ notAdd, housekeeping_c, if_neg notAdd]

theorem steppedCpu_c_of_add (add : opcodeOf (c.mem.read c.pc) = 0b0010#4) :
    (steppedCpu c).c = carryFlag (c.ac.toNat + (c.mem.read (operandOf (c.mem.read c.pc))).toNat) := by
  simp [steppedCpu, executePhase_of_add add]

/-- LDA and ADD write AC and Z together. -/
theorem steppedCpu_z_of_lda (lda : opcodeOf (c.mem.read c.pc) = 0b0001#4) :
    (steppedCpu c).z = ((steppedCpu c).ac == 0#4) := by
  rw [steppedCpu, executePhase_of_lda lda, loadEffect_z, loadEffect_ac, zeroFlag]

theorem steppedCpu_z_of_add (add : opcodeOf (c.mem.read c.pc) = 0b0010#4) :
    (steppedCpu c).z = ((steppedCpu c).ac == 0#4) := by
  rw [steppedCpu, executePhase_of_add add, addEffect_z, addEffect_ac, zeroFlag]

theorem steppedCpu_z_of_others (others : opcodeOf (c.mem.read c.pc) ∉ [0b0001#4, 0b0010#4]) :
    (steppedCpu c).z = c.z := by
  rw [steppedCpu, executePhase_z_of_others _ others, housekeeping_z, fetchWord_z]

end Flags

/-- Settles O17: the three clauses by the opcode of the word at PC. -/
theorem everyStepWritesTheFlags : Obligations.EveryStepWritesTheFlags := by
  unfold Obligations.EveryStepWritesTheFlags
  intro s running
  refine ⟨_, exec_cpuStep_of_running running, fun add => ?_, fun lda => ?_, fun others => ?_⟩
  · exact ⟨steppedCpu_c_of_add s.cpu add, steppedCpu_z_of_add s.cpu add⟩
  · have notAdd : opcodeOf (s.cpu.mem.read s.cpu.pc) ≠ 0b0010#4 := by simp [lda]
    exact ⟨steppedCpu_c_of_not_add s.cpu notAdd, steppedCpu_z_of_lda s.cpu lda⟩
  · have notAdd : opcodeOf (s.cpu.mem.read s.cpu.pc) ≠ 0b0010#4 := fun add => others (by simp [add])
    exact ⟨steppedCpu_c_of_not_add s.cpu notAdd, steppedCpu_z_of_others s.cpu others⟩

end Sys2Proof.Machine
end

section
/-! PROOFS. One full-adder stage: its two cached bits are the binary count of its inputs (R130, R133). -/

namespace Sys2Proof.Machine

/-- The stage writes its own pair of bits and returns nothing (R130). -/
theorem exec_fullAdderUpdate (a b cin : Bit) (s : State) :
    exec (.fullAdderUpdate a b cin) s = .next { s with fullAdder := addBits a b cin, ret := .none } := rfl

/-- The carry is the majority of the inputs (R133): it weighs two, and the sum bit beside it at most one. -/
theorem addBits_cout_iff (a b cin : Bit) :
    (addBits a b cin).cout = true ↔ 2 ≤ a.toNat + b.toNat + cin.toNat := by
  have law := addBits_value a b cin
  have sumAtMostOne := (addBits a b cin).sum.toNat_le
  have coutAtMostOne := (addBits a b cin).cout.toNat_le
  rw [← Bool.toNat_eq_one]
  omega

/-- Settles O33: the stage's equations by definition, both facts about their count from the law. -/
theorem fullAdderAddsThreeBits : Obligations.FullAdderAddsThreeBits := by
  unfold Obligations.FullAdderAddsThreeBits
  intro a b cin s
  exact ⟨addBits a b cin, exec_fullAdderUpdate a b cin s, rfl, rfl, addBits_cout_iff a b cin, addBits_value a b cin⟩

end Sys2Proof.Machine
end

section
/-! PROOFS. The encoder's code of a line index (R151). -/

namespace Sys2Proof.Machine

theorem exec_encoderGetOutput (enable : Bit) (activeIndex : Int) (s : State) :
    exec (.encoderGetOutput enable activeIndex) s = .next { s with ret := .bits (encodeLine enable activeIndex) } := rfl

theorem encodeLine_of_active {enable : Bit} {activeIndex : Int}
    (active : enable = true ∧ 0 ≤ activeIndex ∧ activeIndex ≤ 7) :
    encodeLine enable activeIndex =
      [activeIndex.toNat.testBit 2, activeIndex.toNat.testBit 1, activeIndex.toNat.testBit 0] :=
  if_pos active

theorem encodeLine_of_inactive {enable : Bit} {activeIndex : Int}
    (inactive : ¬(enable = true ∧ 0 ≤ activeIndex ∧ activeIndex ≤ 7)) :
    encodeLine enable activeIndex = [false, false, false] :=
  if_neg inactive

/-- Three binary digits hold every number below eight. -/
theorem threeBits_value {n : Nat} (below : n < 8) :
    4 * (n.testBit 2).toNat + 2 * (n.testBit 1).toNat + (n.testBit 0).toNat = n := by
  simp only [Nat.toNat_testBit]
  omega

/-- Settles O40, by whether the encoder is enabled with an index in range. -/
theorem encoderCodesTheIndex : Obligations.EncoderCodesTheIndex := by
  unfold Obligations.EncoderCodesTheIndex
  intro enable activeIndex s
  by_cases active : enable = true ∧ 0 ≤ activeIndex ∧ activeIndex ≤ 7
  · refine ⟨activeIndex.toNat.testBit 2, activeIndex.toNat.testBit 1, activeIndex.toNat.testBit 0, ?_, fun _ => ?_,
      fun inactive => absurd active inactive⟩
    · rw [exec_encoderGetOutput, encodeLine_of_active active]
    · obtain ⟨-, nonneg, atMostSeven⟩ := active
      rw [threeBits_value (by omega), Int.toNat_of_nonneg nonneg]
  · refine ⟨false, false, false, ?_, fun isActive => absurd isActive active, fun _ => ⟨rfl, rfl, rfl⟩⟩
    rw [exec_encoderGetOutput, encodeLine_of_inactive active]

end Sys2Proof.Machine
end

section
/-! PROOFS. The NOR latch (R180, R183): its rule by input pair, and a hold after any update, which writes nothing more. -/

namespace Sys2Proof.Machine

@[simp] theorem norLatch_invalid (l : Latch) : norLatch true true l = ⟨false, false⟩ := rfl

@[simp] theorem norLatch_set (l : Latch) : norLatch true false l = ⟨true, false⟩ := rfl

@[simp] theorem norLatch_reset (l : Latch) : norLatch false true l = ⟨false, true⟩ := rfl

@[simp] theorem norLatch_hold (l : Latch) : norLatch false false l = l := rfl

/-- The NOR latch's `update` writes its own pair and returns nothing (R180). -/
theorem exec_srNorUpdate (set rst : Bit) (s : State) :
    exec (.srNorUpdate set rst) s = .next { s with srNor := norLatch set rst s.srNor, ret := .none } := rfl

theorem exec_srNorUpdate_hold (s : State) : exec (.srNorUpdate false false) s = .next { s with ret := .none } := by
  rw [exec_srNorUpdate, norLatch_hold]

/-- An operation that ends in a next state hands that state to the rest of the sequence (R14). -/
theorem execAll_cons_of_next {i : Instr} {s t : State} (next : exec i s = .next t) (rest : List Instr) :
    execAll (i :: rest) s = execAll rest t := by
  rw [execAll, next]

/-- Whatever an update left, the invalid pair included, stays when both inputs go back to 0 (R183). -/
theorem execAll_srNorUpdate_hold (set rst : Bit) (s : State) :
    execAll [.srNorUpdate set rst, .srNorUpdate false false] s =
      .next { s with srNor := norLatch set rst s.srNor, ret := .none } := by
  rw [execAll_cons_of_next (exec_srNorUpdate ..), execAll_cons_of_next (exec_srNorUpdate_hold _), execAll]

/-- Settles O43: the four input pairs, then the hold after set and after the invalid pair. -/
theorem srNorFollowsItsTable : Obligations.SrNorFollowsItsTable := by
  unfold Obligations.SrNorFollowsItsTable
  intro s
  refine ⟨?invalid, ?set, ?reset, exec_srNorUpdate_hold s, ?setThenHold, ?invalidThenHold⟩
  case invalid => rw [exec_srNorUpdate, norLatch_invalid]
  case set => rw [exec_srNorUpdate, norLatch_set]
  case reset => rw [exec_srNorUpdate, norLatch_reset]
  case setThenHold => rw [execAll_srNorUpdate_hold, norLatch_set]
  case invalidThenHold => rw [execAll_srNorUpdate_hold, norLatch_invalid]

end Sys2Proof.Machine
end

section
/-! PROOFS. The level-sensitive D latch (R190): transparent while enabled, held otherwise. -/

namespace Sys2Proof.Machine

@[simp] theorem gateLatch_enabled (d : Bit) (l : Latch) : gateLatch d true l = ⟨d, !d⟩ := rfl

@[simp] theorem gateLatch_disabled (d : Bit) (l : Latch) : gateLatch d false l = l := rfl

/-- The D latch's `update` writes its own pair and returns nothing (R190). -/
theorem exec_dLatchUpdate (d enable : Bit) (s : State) :
    exec (.dLatchUpdate d enable) s = .next { s with dLatch := gateLatch d enable s.dLatch, ret := .none } := rfl

/-- Settles O46, by the value of `enable`. -/
theorem dLatchTracksWhenEnabled : Obligations.DLatchTracksWhenEnabled := by
  unfold Obligations.DLatchTracksWhenEnabled
  intro d s
  constructor
  case left => rw [exec_dLatchUpdate, gateLatch_enabled]
  case right => rw [exec_dLatchUpdate, gateLatch_disabled]

end Sys2Proof.Machine
end

section
/-! PROOFS. The flip-flops' inputs: the master-slave `update` by the clock level (R200), the staging of J and K (R210). -/

namespace Sys2Proof.Machine

/-- The master-slave flip-flop's `update` writes its own two latches and returns nothing (R200). -/
theorem exec_masterSlaveUpdate (d clk : Bit) (s : State) :
    exec (.masterSlaveUpdate d clk) s =
      .next { s with masterSlave := masterSlaveUpdate d clk s.masterSlave, ret := .none } := rfl

/-- Settles O48, by the clock level. -/
theorem masterSlaveFollowsTheClockLevel : Obligations.MasterSlaveFollowsTheClockLevel := by
  unfold Obligations.MasterSlaveFollowsTheClockLevel
  intro d s
  constructor
  case left => rw [exec_masterSlaveUpdate, masterSlaveUpdate_high]
  case right => rw [exec_masterSlaveUpdate, masterSlaveUpdate_low]

/-- The JK flip-flop's `setInputs` stages J and K beside the Q it has and returns nothing (R210). -/
theorem exec_jkSetInputs (j k : Bit) (s : State) :
    exec (.jkSetInputs j k) s = .next { s with jk := { s.jk with j := j, k := k }, ret := .none } := rfl

/-- Settles O50: the operation's own equation, at every state. -/
theorem jkSetInputsStagesOnly : Obligations.JkSetInputsStagesOnly := by
  unfold Obligations.JkSetInputsStagesOnly
  exact exec_jkSetInputs

end Sys2Proof.Machine
end

section
/-! PROOFS. The shift register's `clock` (R241): every slot takes the pre-clock bit below it, slot 0 the staged bit. -/

namespace Sys2Proof.Machine

/-- The old `bits.e3` stands nowhere on the right, and the staged bit is kept for the next clock (R241, D17). -/
theorem shiftStep_eq (r : ShiftRegister) :
    shiftStep r = ⟨⟨r.dataIn, r.bits.e0, r.bits.e1, r.bits.e2⟩, r.dataIn⟩ := rfl

/-- The shift register's `clock` writes its own record and returns nothing (R241). -/
theorem exec_shiftClock (s : State) :
    exec .shiftClock s = .next { s with shift := shiftStep s.shift, ret := .none } := rfl

/-- Settles O57: the operation's frame, with the step's new record written slot by slot. -/
theorem shiftClockMovesEveryBit : Obligations.ShiftClockMovesEveryBit := by
  unfold Obligations.ShiftClockMovesEveryBit
  intro s
  rw [exec_shiftClock, shiftStep_eq]

end Sys2Proof.Machine
end

section
/-! PROOFS. The CPU's words (R270 to R280): what one writes after its fetch, as its execute phase on the CPU whose C the
housekeeping has cleared (ADD's apart), and as a whole `step()`. -/

namespace Sys2Proof.Machine

/-! The opcode map at the five opcodes that are not NOP (R103), and at a stored nibble (R94). -/

theorem decodeWord_lda (x : Nibble) : decodeWord (0b0001#4 ++ x) = .lda x := by revert x; decide

theorem decodeWord_add (x : Nibble) : decodeWord (0b0010#4 ++ x) = .add x := by revert x; decide

theorem decodeWord_sta (x : Nibble) : decodeWord (0b0011#4 ++ x) = .sta x := by revert x; decide

theorem decodeWord_out (x : Nibble) : decodeWord (0b0100#4 ++ x) = .out x := by revert x; decide

theorem decodeWord_hlt (x : Nibble) : decodeWord (0b1111#4 ++ x) = .hlt x := by revert x; decide

theorem decodeWord_zext8 (v : Nibble) : decodeWord (zext8 v) = .nop0 v := by revert v; decide

/-! The housekeeping by opcode (R263). -/

theorem housekeeping_of_add (c : Cpu) : housekeeping 0b0010#4 c = c := if_pos rfl

theorem housekeeping_of_not_add {opcode : Nibble} (notAdd : opcode ≠ 0b0010#4) (c : Cpu) :
    housekeeping opcode c = { c with c := false } :=
  if_neg notAdd

/-! The arithmetic of AC and Z: reduction modulo 16 (R11, R50). -/

theorem mask4_eq_ofNat (w : Byte) : mask4 w = BitVec.ofNat 4 (w.toNat % 16) := by
  apply BitVec.eq_of_toNat_eq
  simp [mask4]

theorem zeroFlag_ofNat (n : Nat) : zeroFlag (BitVec.ofNat 4 n) = decide (n % 16 = 0) := by
  rw [zeroFlag, Bool.beq_eq_decide_eq, decide_eq_decide, ← BitVec.toNat_inj, BitVec.toNat_ofNat, BitVec.toNat_ofNat]

/-! What a word's last phases leave of the state: the CPU given, and the text of its description (R265). -/

theorem setCpu_fetch (s : State) (c : Cpu) : (fetch s).setCpu c = s.setCpu c := rfl

theorem setRet_describe_setCpu (r : Ret) (s : State) (c : Cpu) :
    (describe (s.setCpu c)).setRet r =
      { s with cpu := { c with desc := Config.freeText s.draws }, ret := r, draws := s.draws + 1 } := rfl

/-- What follows a word's fetch writes the CPU that its execute phase computes, and a text. -/
theorem finishWord_writes {opcode : Nibble} {effect : Cpu → Cpu} {s : State} {after : Cpu}
    (executed : effect (housekeeping opcode s.cpu) = after) :
    ∃ text, finishWord opcode effect s = .next { s with
      cpu := { after with desc := text }, ret := .none, draws := s.draws + 1 } := by
  refine ⟨Config.freeText s.draws, (finishWord_next_iff ..).mpr ?_⟩
  rw [executed, setRet_describe_setCpu]

/-- The whole `step()` of a CPU that is not halted writes the stepped CPU, and a text. -/
theorem exec_cpuStep_writes {s : State} {after : Cpu} (running : s.cpu.halted = false)
    (stepped : steppedCpu s.cpu = after) :
    ∃ text, exec .cpuStep s = .next { s with
      cpu := { after with desc := text }, ret := .none, draws := s.draws + 1 } := by
  refine ⟨Config.freeText s.draws, ?_⟩
  rw [exec_cpuStep_of_running running, stepped, setCpu_fetch, setRet_describe_setCpu]

/-- Settles O10: housekeeping clears C, the execute phase loads the low nibble. -/
theorem ldaLoadsTheLowNibble : Obligations.LdaLoadsTheLowNibble := by
  unfold Obligations.LdaLoadsTheLowNibble
  intro operand s
  have executed : loadEffect operand (housekeeping 0b0001#4 s.cpu) = { s.cpu with
      mar := operand, ac := BitVec.ofNat 4 ((s.cpu.mem.read operand).toNat % 16),
      z := decide ((s.cpu.mem.read operand).toNat % 16 = 0), c := false } := by
    rw [housekeeping_of_not_add (by decide), loadEffect, mask4_eq_ofNat, setAc, zeroFlag_ofNat, Nat.mod_mod]
    rfl
  exact ⟨decodeWord_lda operand, finishWord_writes executed⟩

/-- Settles O11: housekeeping leaves ADD's C, the execute phase writes it with the sum. -/
theorem addAddsTheWholeWord : Obligations.AddAddsTheWholeWord := by
  unfold Obligations.AddAddsTheWholeWord
  intro operand s
  have executed : addEffect operand (housekeeping 0b0010#4 s.cpu) = { s.cpu with
      mar := operand, ac := BitVec.ofNat 4 (s.cpu.ac.toNat + (s.cpu.mem.read operand).toNat),
      z := decide ((s.cpu.ac.toNat + (s.cpu.mem.read operand).toNat) % 16 = 0),
      c := decide (s.cpu.ac.toNat + (s.cpu.mem.read operand).toNat > 15) } := by
    rw [housekeeping_of_add, addEffect, setAc, zeroFlag_ofNat]
    rfl
  exact ⟨decodeWord_add operand, finishWord_writes executed⟩

/-- Settles O12: the new memory is the old one with AC, zero-extended, written at the operand. -/
theorem staStoresTheAccumulator : Obligations.StaStoresTheAccumulator := by
  unfold Obligations.StaStoresTheAccumulator
  intro operand s canonical
  have stored : (s.cpu.mem.write operand (zext8 s.cpu.ac)).read operand = zext8 s.cpu.ac := by
    rw [Memory.read_write canonical, if_pos rfl]
  have executed : storeEffect operand (housekeeping 0b0011#4 s.cpu) =
      { s.cpu with mem := s.cpu.mem.write operand (zext8 s.cpu.ac), mar := operand, c := false } := by
    rw [housekeeping_of_not_add (by decide)]
    rfl
  obtain ⟨text, completes⟩ := finishWord_writes executed
  refine ⟨decodeWord_sta operand, text, _, completes, ?value, ?decodes, ?otherCells⟩
  case value => rw [stored, zext8, BitVec.ofNat_toNat]
  case decodes => rw [stored, decodeWord_zext8]
  case otherCells =>
    intro a other
    rw [Memory.read_write canonical, if_neg other]

theorem exec_out_writes (x : Nibble) (s : State) :
    ∃ text, exec (.out x) s = .next { s with
      cpu := { s.cpu with out := some s.cpu.ac, c := false, desc := text }, ret := .none, draws := s.draws + 1 } := by
  have executed : outEffect (housekeeping 0b0100#4 s.cpu) = { s.cpu with out := some s.cpu.ac, c := false } := by
    rw [housekeeping_of_not_add (by decide)]
    rfl
  exact finishWord_writes executed

/-- Settles O13: OUT's decoding and what it writes. -/
theorem outOverwritesTheBuffer : Obligations.OutOverwritesTheBuffer := by
  unfold Obligations.OutOverwritesTheBuffer
  exact fun x s => ⟨decodeWord_out x, exec_out_writes x s⟩

theorem executePhase_of_nop {w : Byte} (nop : opcodeOf w ∉ [0b0001#4, 0b0010#4, 0b0011#4, 0b0100#4, 0b1111#4]) :
    executePhase w = fun c => c := by
  simp only [List.mem_cons, List.not_mem_nil, or_false, not_or] at nop
  obtain ⟨notLda, notAdd, notSta, notOut, notHlt⟩ := nop
  simp only [executePhase, notLda, notAdd, notSta, notOut, notHlt, if_false]

/-- Settles O15: the eleven rows as instructions, then a NOP word at PC as a whole `step()`. -/
theorem nopClearsOnlyTheCarry : Obligations.NopClearsOnlyTheCarry := by
  unfold Obligations.NopClearsOnlyTheCarry
  refine ⟨fun x s i row => ?asInstruction, fun s running nop => ?asStep⟩
  case asInstruction =>
    obtain ⟨opcode, notAdd, finishes⟩ := exec_nop row s
    rw [finishes]
    exact finishWord_writes (effect := fun c => c) (housekeeping_of_not_add notAdd s.cpu)
  case asStep =>
    have notAdd : opcodeOf (s.cpu.mem.read s.cpu.pc) ≠ 0b0010#4 := fun add => nop (by simp [add])
    have stepped : steppedCpu s.cpu = { fetchWord s.cpu with c := false } := by
      rw [steppedCpu, executePhase_of_nop nop, housekeeping_of_not_add notAdd]
    exact exec_cpuStep_writes running stepped

end Sys2Proof.Machine
end

section
/-! PROOFS. The halt state (R260, R278, R327): what HLT writes, and that only the CPU's `reset()` leads out of it. -/

namespace Sys2Proof.Machine

theorem exec_cpuStep_of_halted {s : State} (halted : s.cpu.halted = true) :
    exec .cpuStep s = .next ((describe s).setRet .none) := by
  have halts : exec .cpuStep s = haltedStep s := if_pos halted
  rw [halts, haltedStep_next_iff]

/-- Settles O16: the halted step's equation. -/
theorem haltedStepWritesOnlyTheText : Obligations.HaltedStepWritesOnlyTheText := by
  unfold Obligations.HaltedStepWritesOnlyTheText
  exact fun s halted => ⟨_, exec_cpuStep_of_halted halted⟩

theorem exec_hlt_writes (x : Nibble) (s : State) :
    ∃ t text, exec (.hlt x) s = .next t ∧ t = { s with
      cpu := { s.cpu with halted := true, c := false, desc := text }, ret := .none, draws := s.draws + 1 } := by
  have executed : haltEffect (housekeeping 0b1111#4 s.cpu) = { s.cpu with halted := true, c := false } := by
    rw [housekeeping_of_not_add (by decide)]
    rfl
  obtain ⟨text, completes⟩ := finishWord_writes executed
  exact ⟨_, text, completes, rfl⟩

theorem executePhase_of_hlt {w : Byte} (hlt : opcodeOf w = 0b1111#4) : executePhase w = haltEffect := by
  simp [executePhase, hlt]

/-- HLT as a whole `step()`: what its fetch writes, and then what HLT does. -/
theorem exec_cpuStep_of_hlt {s : State} {x : Nibble} (running : s.cpu.halted = false)
    (hlt : s.cpu.mem.read s.cpu.pc = (0b1111#4 ++ x : Byte)) :
    ∃ text, exec .cpuStep s = .next { s with
      cpu := { s.cpu with
        mar := s.cpu.pc, ir := (0b1111#4 ++ x : Byte), pc := s.cpu.pc + 1#4, halted := true, c := false, desc := text },
      ret := .none, draws := s.draws + 1 } := by
  have opcode : opcodeOf (s.cpu.mem.read s.cpu.pc) = 0b1111#4 := by rw [hlt, opcodeOf_append]
  have stepped : steppedCpu s.cpu = { fetchWord s.cpu with halted := true, c := false } := by
    rw [steppedCpu, executePhase_of_hlt opcode, opcode, housekeeping_of_not_add (by decide)]
    rfl
  rw [← hlt]
  exact exec_cpuStep_writes running stepped

/-- The CPU without what a host can still change while it is halted, which is memory, the output buffer and `desc`: its
registers, flags and halt state. -/
def Cpu.frozenPart (c : Cpu) : Nibble × Nibble × Nibble × Byte × Bit × Bit × Bit :=
  (c.pc, c.ac, c.mar, c.ir, c.z, c.c, c.halted)

theorem Cpu.frozenPart_eq_iff (c d : Cpu) :
    c.frozenPart = d.frozenPart ↔
      c.pc = d.pc ∧ c.ac = d.ac ∧ c.mar = d.mar ∧ c.ir = d.ir ∧ c.z = d.z ∧ c.c = d.c ∧ c.halted = d.halted := by
  simp [Cpu.frozenPart]

/-- While the CPU is halted, no call but its `reset()` touches its registers, flags or halt state: `step()` draws a
text, the host's writes change memory, `getLastOutput` the buffer, and every other call leaves the CPU alone. A CPU word
is no call. -/
theorem exec_call_of_halted {i : Instr} {s : State} (halted : s.cpu.halted = true) (notReset : i ≠ .cpuReset)
    (call : ∃ f, encode i = .call f) :
    ∃ t, exec i s = .next t ∧ t.cpu.frozenPart = s.cpu.frozenPart := by
  obtain ⟨f, isCall⟩ := call
  cases i
  case cpuReset => exact absurd rfl notReset
  case cpuStep => exact ⟨_, exec_cpuStep_of_halted halted, rfl⟩
  case lda | add | sta | out | hlt | nop0 | nop5 | nop6 | nop7 | nop8 | nop9 | nopA | nopB | nopC | nopD | nopE =>
    exact Encoded.noConfusion isCall
  all_goals exact ⟨_, rfl, rfl⟩

/-- One call after the other, the frozen part is handed on. -/
theorem execAll_calls_of_halted {later : List Instr} {s : State} (halted : s.cpu.halted = true)
    (noReset : .cpuReset ∉ later) (calls : ∀ i ∈ later, ∃ f, encode i = .call f) :
    ∃ u, execAll later s = .next u ∧ u.cpu.frozenPart = s.cpu.frozenPart := by
  induction later generalizing s with
  | nil => exact ⟨s, rfl, rfl⟩
  | cons i rest ih =>
    obtain ⟨notReset, noResetLater⟩ : .cpuReset ≠ i ∧ .cpuReset ∉ rest := by simpa using noReset
    obtain ⟨call, callsLater⟩ := List.forall_mem_cons.mp calls
    obtain ⟨t, next, frozen⟩ := exec_call_of_halted halted notReset.symm call
    obtain ⟨-, -, -, -, -, -, haltedNow⟩ := (Cpu.frozenPart_eq_iff ..).mp frozen
    obtain ⟨u, ends, frozenLater⟩ := ih (haltedNow.trans halted) noResetLater callsLater
    exact ⟨u, (execAll_cons_of_next next rest).trans ends, frozenLater.trans frozen⟩

/-- Settles O14: HLT decoded, run by `step()` and run as an instruction; then the halt kept through any calls. -/
theorem hltHaltsTheCpu : Obligations.HltHaltsTheCpu := by
  unfold Obligations.HltHaltsTheCpu
  intro x s
  obtain ⟨t, text, halts, written⟩ := exec_hlt_writes x s
  have haltedAfter : t.cpu.halted = true := by rw [written]
  refine ⟨decodeWord_hlt x, exec_cpuStep_of_hlt, t, text, halts, written, fun later noReset calls => ?_⟩
  obtain ⟨u, ends, frozen⟩ := execAll_calls_of_halted haltedAfter noReset calls
  obtain ⟨pc, ac, mar, ir, z, c, halted⟩ := (Cpu.frozenPart_eq_iff ..).mp frozen
  exact ⟨u, _, ends, halted.trans haltedAfter, pc, ac, mar, ir, z, c,
    exec_cpuStep_of_halted (halted.trans haltedAfter)⟩

end Sys2Proof.Machine
end

section
/-! PROOFS. The CPU's accessors (R285 to R290): each returns its field, and `getLastOutput` alone writes, draining the
buffer. -/

namespace Sys2Proof.Machine

theorem exec_cpuGetRegisterValue (r : Register) (s : State) :
    exec (.cpuGetRegisterValue r) s = .next { s with ret := .value (registerValue s.cpu r) } := rfl

theorem exec_cpuGetFlagValue (f : Flag) (s : State) :
    exec (.cpuGetFlagValue f) s = .next { s with ret := .bit (flagValue s.cpu f) } := rfl

theorem exec_cpuIsHalted (s : State) : exec .cpuIsHalted s = .next { s with ret := .bit s.cpu.halted } := rfl

theorem exec_cpuGetLastActionDescription (s : State) :
    exec .cpuGetLastActionDescription s = .next { s with ret := .text s.cpu.desc } := rfl

theorem exec_cpuGetLastOutput (s : State) :
    exec .cpuGetLastOutput s = .next { s with cpu := { s.cpu with out := none }, ret := .output s.cpu.out } := rfl

/-- Settles O26: each accessor's equation, the registers' widths as bounds. -/
theorem cpuAccessorsReturnTheirField : Obligations.CpuAccessorsReturnTheirField := by
  unfold Obligations.CpuAccessorsReturnTheirField
  intro s
  have nibble_le (v : Nibble) : v.toNat ≤ 15 := Nat.le_of_lt_succ v.isLt
  have byte_le (v : Byte) : v.toNat ≤ 255 := Nat.le_of_lt_succ v.isLt
  exact ⟨⟨exec_cpuGetRegisterValue .pc s, nibble_le _⟩, ⟨exec_cpuGetRegisterValue .ac s, nibble_le _⟩,
    ⟨exec_cpuGetRegisterValue .ir s, byte_le _⟩, ⟨exec_cpuGetRegisterValue .mar s, nibble_le _⟩,
    exec_cpuGetFlagValue .z s, exec_cpuGetFlagValue .c s, exec_cpuIsHalted s, exec_cpuGetLastActionDescription s⟩

/-- Settles O28: the drain's equation, then the two calls on the state that OUT leaves. -/
theorem getLastOutputDrainsTheBuffer : Obligations.GetLastOutputDrainsTheBuffer := by
  unfold Obligations.GetLastOutputDrainsTheBuffer
  intro s
  refine ⟨exec_cpuGetLastOutput s, fun x => ?_⟩
  obtain ⟨text, outputs⟩ := exec_out_writes x s
  obtain ⟨u, v, first, second, captured, drained⟩ := getLastOutput_twice _
  exact ⟨_, u, v, outputs, first, captured, second, drained⟩

end Sys2Proof.Machine
end

section
/-! PROOFS. Every operation completes (R320): a CPU word through the phases after its fetch, `step()` through those or as a
halted step (R325), every other call by returning to its caller. -/

namespace Sys2Proof.Machine

/-- What follows a word's fetch ends in a next state, whatever its opcode and its execute phase. -/
theorem finishWord_completes (opcode : Nibble) (effect : Cpu → Cpu) (s : State) :
    ∃ t, finishWord opcode effect s = .next t :=
  ⟨_, (finishWord_next_iff ..).mpr rfl⟩

/-- An opcode outside the defined five is no error: its row is finished like any word (R280, R321). -/
theorem exec_nop_completes {x : Nibble} {i : Instr}
    (row : i ∈ [Instr.nop0 x, .nop5 x, .nop6 x, .nop7 x, .nop8 x, .nop9 x, .nopA x, .nopB x, .nopC x, .nopD x, .nopE x])
    (s : State) : ∃ t, exec i s = .next t := by
  obtain ⟨opcode, -, finishes⟩ := exec_nop row s
  rw [finishes]
  exact finishWord_completes ..

/-- A `step()` either runs the word it fetched to its end or is a halted step (R325). -/
theorem exec_cpuStep_completes (s : State) : ∃ t, exec .cpuStep s = .next t := by
  cases halted : s.cpu.halted with
  | false => exact ⟨_, exec_cpuStep_of_running halted⟩
  | true => exact ⟨_, exec_cpuStep_of_halted halted⟩

theorem give_completes (r : Ret) (s : State) : ∃ t, give r s = .next t :=
  ⟨_, give_eq_next r s⟩

/-- Settles O9, by how the instruction ends: as `step()`, as a CPU word, or by giving its caller a return value, which is
how every other call ends on any arguments (R321). -/
theorem everyOperationCompletes : Obligations.EveryOperationCompletes := by
  unfold Obligations.EveryOperationCompletes
  intro i s
  cases i with
  | cpuStep => exact exec_cpuStep_completes s
  | lda | add | sta | out | hlt => exact finishWord_completes ..
  | nop0 x | nop5 x | nop6 x | nop7 x | nop8 x | nop9 x | nopA x | nopB x | nopC x | nopD x | nopE x =>
    exact exec_nop_completes (x := x) (by simp) s
  | _ => exact give_completes ..

end Sys2Proof.Machine
end

section
/-! PROOFS. The CPU's `reset()` (R363): it writes the CPU in its reset state with the next free text, whose cells all read
zero. -/

namespace Sys2Proof.Machine

/-- A cell that no entry lists holds the reset contents (R91, R363). -/
theorem Memory.read_nil (a : Nibble) : Memory.read [] a = 0x00#8 := rfl

theorem resetCpu_desc (before after : String) : { resetCpu before with desc := after } = resetCpu after := rfl

theorem exec_cpuReset (s : State) :
    exec .cpuReset s = .next { s with
      cpu := resetCpu (Config.freeText s.draws), ret := .none, draws := s.draws + 1 } := by
  have ends : exec .cpuReset s = .next ((describe (s.setCpu (resetCpu s.cpu.desc))).setRet .none) := rfl
  rw [ends, setRet_describe_setCpu, resetCpu_desc]

/-- Settles O23: `reset()` writes the reset CPU, whose memory lists no cell. -/
theorem cpuResetRestoresTheInitialState : Obligations.CpuResetRestoresTheInitialState := by
  unfold Obligations.CpuResetRestoresTheInitialState
  intro s
  exact ⟨Config.freeText s.draws, [], exec_cpuReset s, Memory.read_nil⟩

end Sys2Proof.Machine
end

section
/-! PROOFS. Decoding of calls (R110 to R112): all that it can answer, said once; and that it takes the same ids and
arguments as the table of signatures. -/

namespace Sys2Proof

/-- How many operations each component has (R110, R111); none for a number that is no component's. -/
def operationCount : Nat → Nat
  | 1 => 4 | 2 => 4 | 3 => 3 | 4 => 2 | 5 => 2 | 6 => 2 | 7 => 2 | 8 => 2 | 9 => 4 | 10 => 4 | 11 => 4 | 12 => 4
  | 13 => 5 | 14 => 5 | 15 => 6 | 16 => 5 | 17 => 11
  | _ => 0

/-- What the decoder may answer to a call: the instruction whose encoding the call is; that an adder or comparator
operand is not four bits long (D6); or a rejection by the operation's number. -/
def IsAnswer (component op : Nat) (args : List Arg) : Except Reject Instr → Prop
  | .ok i => encode i = call (BitVec.ofNat 16 (component * 256 + op)) args
  | .error e =>
    e = .operandLength ∧ 1 ≤ op ∧ op ≤ operationCount component ∨ e = rejectCall (operationCount component) op

theorem rejectCall_of_operation {n op : Nat} (isOperation : 1 ≤ op ∧ op ≤ n) : rejectCall n op = .badArguments :=
  if_pos isOperation

theorem rejectCall_of_not_operation {n op : Nat} (notOperation : ¬(1 ≤ op ∧ op ≤ n)) :
    rejectCall n op = .unknownCommand :=
  if_neg notOperation

/-- All that the decoder answers, component by component and operation by operation. -/
theorem decodeCall_answers (component op : Nat) (args : List Arg) :
    IsAnswer component op args (decodeCall component op args) := by
  unfold decodeCall
  split
  case h_18 =>
    have noOperations : operationCount component = 0 := by simp [operationCount, *]
    rw [IsAnswer, noOperations, rejectCall_of_not_operation (by omega)]
    exact .inr rfl
  all_goals
    simp only [decodeFullAdder, decodeRippleAdder, decodeComparator, decodeMux4, decodeMux8, decodeDecoder,
      decodeEncoder, decodeSevenSeg, decodeSrNor, decodeSrNand, decodeDLatch, decodeMasterSlave, decodeJk, decodeTFlip,
      decodeCounter, decodeShift, decodeCpu]
    split
    all_goals simp [IsAnswer, encode, quadArg, operationCount]

/-- The table of signatures lists exactly the operations of the seventeen components. -/
theorem signature_isSome_iff (component op : Nat) (byte : op < 256) :
    (signature (component * 256 + op)).isSome ↔ 1 ≤ op ∧ op ≤ operationCount component := by
  constructor
  case mp =>
    generalize id_eq : component * 256 + op = id
    obtain ⟨rfl, rfl⟩ : component = id / 256 ∧ op = id % 256 := by omega
    unfold signature
    split <;> simp [operationCount]
  case mpr =>
    rintro ⟨first, last⟩
    unfold operationCount at last
    split at last
    case h_18 => omega
    all_goals interval_cases op <;> rfl

/-! An argument fits its kind exactly when it is a value of that kind, of any value (R110, R112). -/

theorem Arg.fits_bit_iff (a : Arg) : a.fits .bit = true ↔ ∃ b, a = .bit b := by
  cases a <;> simp [Arg.fits]

theorem Arg.fits_quad_iff (a : Arg) : a.fits .quad = true ↔ ∃ b0 b1 b2 b3, a = .bits [b0, b1, b2, b3] := by
  cases a <;> simp [Arg.fits, List.length_eq_four]

theorem Arg.fits_bits_iff (a : Arg) : a.fits .bits = true ↔ ∃ bs, a = .bits bs := by
  cases a <;> simp [Arg.fits]

theorem Arg.fits_int_iff (a : Arg) : a.fits .int = true ↔ ∃ v, a = .int v := by
  cases a <;> simp [Arg.fits]

theorem Arg.fits_ints_iff (a : Arg) : a.fits .ints = true ↔ ∃ vs, a = .ints vs := by
  cases a <;> simp [Arg.fits]

theorem Arg.fits_register_iff (a : Arg) : a.fits .register = true ↔ ∃ r, a = .register r := by
  cases a <;> simp [Arg.fits]

theorem Arg.fits_flag_iff (a : Arg) : a.fits .flag = true ↔ ∃ f, a = .flag f := by
  cases a <;> simp [Arg.fits]

theorem argsFit_nil_iff (args : List Arg) : argsFit args [] = true ↔ args = [] := by
  cases args <;> simp [argsFit]

theorem argsFit_cons_iff (args : List Arg) (k : ArgKind) (ks : List ArgKind) :
    argsFit args (k :: ks) = true ↔ ∃ a as, a.fits k = true ∧ argsFit as ks = true ∧ args = a :: as := by
  cases args <;> simp [argsFit]

/-- A command with arguments of its signature's kinds decodes. -/
theorem decodeCall_of_argsFit {id : Nat} {kinds : List ArgKind} {args : List Arg} (listed : signature id = some kinds)
    (fit : argsFit args kinds = true) : ∃ i, decodeCall (id / 256) (id % 256) args = .ok i := by
  unfold signature at listed
  split at listed
  case h_70 => contradiction
  all_goals
    cases listed
    simp only [argsFit_cons_iff, argsFit_nil_iff, Arg.fits_bit_iff, Arg.fits_quad_iff, Arg.fits_bits_iff,
      Arg.fits_int_iff, Arg.fits_ints_iff, Arg.fits_register_iff, Arg.fits_flag_iff] at fit
    casesm* ∃ _, _, _ ∧ _, _ = _
    exact ⟨_, rfl⟩

namespace Laws.EncodingWellFormed

/-- Every instruction's encoding is well-formed, by its constructor's lemma. -/
theorem every (i : Instr) : Statement i := by
  cases i <;> simp only [lda, add, sta, out, hlt, nop0, nop5, nop6, nop7, nop8, nop9, nopA, nopB, nopC, nopD, nopE,
    fullAdderUpdate, fullAdderGetSum, fullAdderGetCarryOut, fullAdderReset, rippleAdderUpdate, rippleAdderGetSum,
    rippleAdderGetCarryOut, rippleAdderReset, comparatorCompare, comparatorGetResult, comparatorReset, mux4GetOutput,
    mux4Reset, mux8GetOutput, mux8Reset, decoderGetActiveOutput, decoderReset, encoderGetOutput, encoderReset,
    sevenSegGetSegmentsFor, sevenSegReset, srNorUpdate, srNorGetQ, srNorGetQNot, srNorReset, srNandUpdate, srNandGetQ,
    srNandGetQNot, srNandReset, dLatchUpdate, dLatchGetQ, dLatchGetQNot, dLatchReset, masterSlaveUpdate,
    masterSlaveGetQ, masterSlaveGetQNot, masterSlaveReset, jkSetInputs, jkClock, jkGetQ, jkGetQNot, jkReset,
    tFlipSetInput, tFlipClock, tFlipGetQ, tFlipGetQNot, tFlipReset, counterClock, counterToggleMode, counterGetValue,
    counterGetBits, counterIsUpMode, counterReset, shiftSetDataInput, shiftClock, shiftGetSerialOut, shiftGetBits,
    shiftReset, cpuStep, cpuReset, cpuLoadProgram, cpuSetDataInMemory, cpuGetRegisterValue, cpuGetFlagValue,
    cpuGetMemoryState, cpuIsHalted, cpuGetLastActionDescription, cpuGetLastOutput, cpuDisassemble]

end Laws.EncodingWellFormed

/-! The decoder on a call as the caller hands it over (R111): which calls decode, and why another one is rejected. -/

theorem encode_of_decodeFrame {f : Frame} {i : Instr} (decodes : decodeFrame f = .ok i) : encode i = .call f := by
  have answer := decodeCall_answers (f.id.toNat / 256) (f.id.toNat % 256) f.args
  rw [← decodeFrame, decodes, IsAnswer, ← commandId_split] at answer
  exact answer

/-- The calls that decode are the well-formed ones. -/
theorem decodeFrame_isOk_iff (f : Frame) : (∃ i, decodeFrame f = .ok i) ↔ f.wellFormed = true := by
  constructor
  case mp =>
    rintro ⟨i, decodes⟩
    have wellFormed := Laws.EncodingWellFormed.every i
    rwa [Laws.EncodingWellFormed.Statement, encode_of_decodeFrame decodes] at wellFormed
  case mpr =>
    intro wellFormed
    unfold Frame.wellFormed at wellFormed
    split at wellFormed
    next kinds listed => exact decodeCall_of_argsFit listed wellFormed
    next => contradiction

/-- Why a call is rejected: its id is no command, or it is one and the arguments are not that command's. -/
theorem decodeFrame_of_not_wellFormed {f : Frame} (illFormed : f.wellFormed = false) :
    ∃ e, decodeFrame f = .error e ∧
      (signature f.id.toNat = none → e = .unknownCommand) ∧
      ((signature f.id.toNat).isSome → e = .badArguments ∨ e = .operandLength) := by
  have answer := decodeCall_answers (f.id.toNat / 256) (f.id.toNat % 256) f.args
  have listed := signature_isSome_iff (f.id.toNat / 256) (f.id.toNat % 256) (Nat.mod_lt _ (by decide))
  rw [Nat.div_add_mod'] at listed
  rw [← decodeFrame] at answer
  cases decodes : decodeFrame f with
  | ok i =>
    have wellFormed := (decodeFrame_isOk_iff f).mp ⟨i, decodes⟩
    simp [illFormed] at wellFormed
  | error e =>
    rw [decodes, IsAnswer] at answer
    refine ⟨e, rfl, fun unlisted => ?_, fun isListed => ?_⟩
    · have notOperation := mt listed.mpr (by simp [unlisted])
      rcases answer with ⟨-, isOperation⟩ | rejected
      · exact absurd isOperation notOperation
      · rw [rejected, rejectCall_of_not_operation notOperation]
    · rcases answer with ⟨tooLong, -⟩ | rejected
      · exact .inr tooLong
      · exact .inl (by rw [rejected, rejectCall_of_operation (listed.mp isListed)])

end Sys2Proof
end

section
/-! PROOFS. Decoding and encoding are inverse to each other (R103, R111): every instruction's encoding decodes to it,
and what decodes is the encoding of what it decodes to. -/

namespace Sys2Proof

/-- Every encoding decodes, to the instruction it encodes: a word's opcode selects the constructor and its operand is
kept, a call's id and arguments are those of one constructor. -/
theorem decode_encode (i : Instr) : decode (encode i) = .ok i := by
  cases i with
  | lda x | add x | sta x | out x | hlt x | nop0 x | nop5 x | nop6 x | nop7 x | nop8 x | nop9 x | nopA x | nopB x
  | nopC x | nopD x | nopE x => revert x; decide
  | _ =>
    simp [encode, call, quadArg, decode, decodeFrame, decodeCall, decodeFullAdder, decodeRippleAdder, decodeComparator,
      decodeMux4, decodeMux8, decodeDecoder, decodeEncoder, decodeSevenSeg, decodeSrNor, decodeSrNand, decodeDLatch,
      decodeMasterSlave, decodeJk, decodeTFlip, decodeCounter, decodeShift, decodeCpu]

/-- No bit of a CPU word is dropped: opcode and operand are both in the instruction. -/
theorem encode_decodeWord (w : Byte) : encode (decodeWord w) = .word w := by
  revert w; decide

/-- Settles O3: each direction by its lemma, the second by the kind of encoding. -/
theorem decodeAndEncodeAgree : Obligations.DecodeAndEncodeAgree := by
  unfold Obligations.DecodeAndEncodeAgree
  intro e i
  constructor
  case mpr =>
    rintro rfl
    exact decode_encode i
  case mp =>
    intro decodes
    cases e with
    | word w =>
      obtain rfl : decodeWord w = i := Except.ok.inj decodes
      exact (encode_decodeWord w).symm
    | call f => exact (encode_of_decodeFrame decodes).symm

end Sys2Proof
end

section
/-! PROOFS. One step of the machine (R14, R260 to R266): the caller's next call, or the word at PC. -/

namespace Sys2Proof.Machine

/-- The CPU's own dispatch is `exec` of the decoded word (R264): both read the same four bits. -/
theorem executeWord_eq_exec (w : Byte) (s : State) : executeWord w s = exec (decodeWord w) s := by
  unfold executeWord decodeWord
  generalize w.getLsbD 7 = bit7, w.getLsbD 6 = bit6, w.getLsbD 5 = bit5, w.getLsbD 4 = bit4
  cases bit7 <;> cases bit6 <;> cases bit5 <;> cases bit4 <;> rfl

/-- With no call listed the caller calls `step()`, halted or not (log 1). -/
theorem step_of_no_calls {s : State} (noCalls : s.calls = []) : step s = exec .cpuStep s := by
  change step s = execCpuStep s
  rw [step, noCalls, execCpuStep, executeWord_eq_exec]

theorem exec_cpuStep_eq_exec_decodeWord {s : State} (running : s.cpu.halted = false) :
    exec .cpuStep s = exec (decodeWord (s.cpu.mem.read s.cpu.pc))
      { s with cpu := { s.cpu with mar := s.cpu.pc, ir := s.cpu.mem.read s.cpu.pc, pc := s.cpu.pc + 1#4 } } := by
  change execCpuStep s = _
  rw [execCpuStep, running, executeWord_eq_exec]
  rfl

/-- Settles O4, by the dispatch of the fetched word. -/
theorem stepRunsTheDecodedWord : Obligations.StepRunsTheDecodedWord := by
  unfold Obligations.StepRunsTheDecodedWord
  intro s noCalls running
  rw [step_of_no_calls noCalls, exec_cpuStep_eq_exec_decodeWord running]

/-- Settles O8: with no call listed, and then from any running state. -/
theorem cpuStepCallRunsTheWordAtPc : Obligations.CpuStepCallRunsTheWordAtPc := by
  unfold Obligations.CpuStepCallRunsTheWordAtPc
  exact fun s => ⟨step_of_no_calls rfl, exec_cpuStep_eq_exec_decodeWord⟩

theorem step_of_call {s : State} {f : Frame} {rest : List Frame} {i : Instr} (calls : s.calls = f :: rest)
    (decodes : decodeFrame f = .ok i) : step s = exec i (s.setCalls rest) := by
  rw [step, calls]
  simp only [decodes]

theorem step_of_rejected {s : State} {f : Frame} {rest : List Frame} {e : Reject} (calls : s.calls = f :: rest)
    (rejected : decodeFrame f = .error e) : step s = .refused (refusalOf f.id e) := by
  rw [step, calls]
  simp only [rejected]

/-- Settles O5: the step of a call that decodes. -/
theorem stepMakesTheNextCall : Obligations.StepMakesTheNextCall := by
  unfold Obligations.StepMakesTheNextCall
  exact fun s f rest i calls decodes => step_of_call calls decodes

/-- Settles O6: a well-formed call decodes and every operation completes; another is rejected, for its reason. -/
theorem stepRefusesExactlyIllFormedCalls : Obligations.StepRefusesExactlyIllFormedCalls := by
  unfold Obligations.StepRefusesExactlyIllFormedCalls
  intro s f rest calls
  refine ⟨fun wellFormed => ?completes, fun unlisted => ?unknown, fun kinds listed unfit => ?misfit⟩
  case completes =>
    obtain ⟨i, decodes⟩ := (decodeFrame_isOk_iff f).mpr wellFormed
    rw [step_of_call calls decodes]
    exact everyOperationCompletes i _
  case unknown =>
    have illFormed : f.wellFormed = false := by rw [Frame.wellFormed, unlisted]
    obtain ⟨e, rejected, unknown, -⟩ := decodeFrame_of_not_wellFormed illFormed
    rw [step_of_rejected calls rejected, unknown unlisted, refusalOf]
  case misfit =>
    have illFormed : f.wellFormed = false := by rw [Frame.wellFormed, listed]; exact unfit
    obtain ⟨e, rejected, -, misfit⟩ := decodeFrame_of_not_wellFormed illFormed
    rw [step_of_rejected calls rejected]
    rcases misfit (by simp [listed]) with rfl | rfl
    · exact .inl rfl
    · exact .inr rfl

/-! Bit arrays that are not four bits long match no operand pattern of the adder's and the comparator's (D6). -/

theorem decodeRippleAdder_of_length {a b : List Bit} (wrong : ¬(a.length = 4 ∧ b.length = 4)) (cin : Bit) :
    decodeRippleAdder 1 [.bits a, .bits b, .bit cin] = .error .operandLength := by
  rw [decodeRippleAdder]
  rintro _ _ _ _ _ _ _ _ rfl rfl
  exact wrong ⟨rfl, rfl⟩

theorem decodeComparator_of_length {a b : List Bit} (wrong : ¬(a.length = 4 ∧ b.length = 4)) :
    decodeComparator 1 [.bits a, .bits b] = .error .operandLength := by
  rw [decodeComparator]
  rintro _ _ _ _ _ _ _ _ rfl rfl
  exact wrong ⟨rfl, rfl⟩

/-- Settles O7: both calls are rejected for the length of an operand. -/
theorem wrongOperandLengthIsRefused : Obligations.WrongOperandLengthIsRefused := by
  unfold Obligations.WrongOperandLengthIsRefused
  intro s a b cin rest wrong
  have adder : decodeFrame { id := 0x0201#16, args := [.bits a, .bits b, .bit cin] } = .error .operandLength := by
    simp [decodeFrame, decodeCall, decodeRippleAdder_of_length wrong]
  have comparator : decodeFrame { id := 0x0301#16, args := [.bits a, .bits b] } = .error .operandLength := by
    simp [decodeFrame, decodeCall, decodeComparator_of_length wrong]
  exact ⟨step_of_rejected rfl adder, step_of_rejected rfl comparator⟩

end Sys2Proof.Machine
end

section
/-! PROOFS. The invariant (R36 to R38, R51, R192): it is about the CPU and the latches, and every operation keeps it. -/

namespace Sys2Proof.Machine

theorem State.inv_iff (s : State) :
    s.inv = true ↔ s.cpu.inv = true ∧ (s.srNor.q && s.srNor.qn) = false ∧ (s.srNand.q || s.srNand.qn) = true ∧
      s.dLatch.complementary = true ∧ s.masterSlave.master.complementary = true ∧
      s.masterSlave.slave.complementary = true := by
  simp only [State.inv, Bool.and_eq_true, Bool.not_eq_true', and_assoc]

/-- An operation of the CPU is only asked for the CPU's part. -/
theorem State.inv_of_cpu_inv {s t : State} (inv : s.inv = true) (circuits : t.circuits = s.circuits)
    (cpu : t.cpu.inv = true) : t.inv = true := by
  rw [State.inv_iff] at inv ⊢
  simp only [State.circuits, Prod.mk.injEq] at circuits
  obtain ⟨-, -, -, srNor, srNand, dLatch, masterSlave, -⟩ := circuits
  rw [srNor, srNand, dLatch, masterSlave]
  exact ⟨cpu, inv.2⟩

theorem State.cpu_inv {s : State} (inv : s.inv = true) : s.cpu.inv = true :=
  ((State.inv_iff s).mp inv).1

theorem executePhase_inv {c : Cpu} (inv : c.inv = true) (w : Byte) : (executePhase w c).inv = true := by
  unfold executePhase
  split_ifs
  · exact loadEffect_inv inv _
  · exact addEffect_inv inv _
  · exact storeEffect_inv inv _
  · exact outEffect_inv inv
  · exact haltEffect_inv inv
  · exact inv

theorem steppedCpu_inv {c : Cpu} (inv : c.inv = true) : (steppedCpu c).inv = true :=
  executePhase_inv (housekeeping_inv (fetchWord_inv inv) _) _

/-- A text drawn and a value returned are not part of it. -/
theorem setRet_describe_setCpu_inv {s : State} {c : Cpu} (inv : s.inv = true) (cpu : c.inv = true) (r : Ret) :
    ((describe (s.setCpu c)).setRet r).inv = true :=
  State.inv_of_cpu_inv inv rfl cpu

theorem finishWord_inv {opcode : Nibble} {effect : Cpu → Cpu} {s t : State} (inv : s.inv = true)
    (effect_inv : ∀ c : Cpu, c.inv = true → (effect c).inv = true) (next : finishWord opcode effect s = .next t) :
    t.inv = true := by
  obtain rfl := (finishWord_next_iff ..).mp next
  exact setRet_describe_setCpu_inv inv (effect_inv _ (housekeeping_inv (State.cpu_inv inv) opcode)) .none

theorem exec_cpuStep_inv {s t : State} (inv : s.inv = true) (next : exec .cpuStep s = .next t) : t.inv = true := by
  cases halted : s.cpu.halted with
  | false =>
    rw [exec_cpuStep_of_running halted, Host.Outcome.next.injEq] at next
    subst next
    rw [setCpu_fetch]
    exact setRet_describe_setCpu_inv inv (steppedCpu_inv (State.cpu_inv inv)) .none
  | true =>
    rw [exec_cpuStep_of_halted halted, Host.Outcome.next.injEq] at next
    subst next
    exact inv

/-- Every operation keeps the invariant: a latch goes only to pairs it can hold, a write of memory keeps the canonical
form, AC and Z are written together, and the other operations write nothing that the invariant is about. -/
theorem exec_inv {i : Instr} {s t : State} (inv : s.inv = true) (next : exec i s = .next t) : t.inv = true := by
  obtain ⟨cpu, nor, nand, dLatch, master, slave⟩ := (State.inv_iff s).mp inv
  obtain ⟨canonical, zero⟩ := Bool.and_eq_true_iff.mp cpu
  cases i with
  | lda x => exact finishWord_inv inv (fun _ h => loadEffect_inv h x) next
  | add x => exact finishWord_inv inv (fun _ h => addEffect_inv h x) next
  | sta x => exact finishWord_inv inv (fun _ h => storeEffect_inv h x) next
  | out x => exact finishWord_inv inv (fun _ h => outEffect_inv h) next
  | hlt x => exact finishWord_inv inv (fun _ h => haltEffect_inv h) next
  | nop0 x | nop5 x | nop6 x | nop7 x | nop8 x | nop9 x | nopA x | nopB x | nopC x | nopD x | nopE x =>
    exact finishWord_inv (effect := fun c => c) inv (fun _ h => h) next
  | cpuStep => exact exec_cpuStep_inv inv next
  | cpuReset =>
    obtain rfl := (done_next_iff ..).mp next
    exact State.inv_of_cpu_inv inv rfl rfl
  | cpuLoadProgram words startAddress =>
    obtain rfl := (done_next_iff ..).mp next
    exact State.inv_of_cpu_inv inv rfl (Bool.and_eq_true_iff.mpr ⟨Memory.wf_loadWords canonical _ _, zero⟩)
  | cpuSetDataInMemory address value =>
    obtain rfl := (done_next_iff ..).mp next
    exact State.inv_of_cpu_inv inv rfl (Bool.and_eq_true_iff.mpr ⟨Memory.wf_hostWrite canonical _ _, zero⟩)
  | srNorUpdate set rst =>
    obtain rfl := (done_next_iff ..).mp next
    exact (State.inv_iff _).mpr ⟨cpu, norLatch_legal nor set rst, nand, dLatch, master, slave⟩
  | srNorReset =>
    obtain rfl := (done_next_iff ..).mp next
    exact (State.inv_iff _).mpr ⟨cpu, rfl, nand, dLatch, master, slave⟩
  | srNandUpdate set rst =>
    obtain rfl := (done_next_iff ..).mp next
    exact (State.inv_iff _).mpr ⟨cpu, nor, nandLatch_legal nand set rst, dLatch, master, slave⟩
  | srNandReset =>
    obtain rfl := (done_next_iff ..).mp next
    exact (State.inv_iff _).mpr ⟨cpu, nor, rfl, dLatch, master, slave⟩
  | dLatchUpdate d enable =>
    obtain rfl := (done_next_iff ..).mp next
    exact (State.inv_iff _).mpr ⟨cpu, nor, nand, gateLatch_complementary dLatch d enable, master, slave⟩
  | dLatchReset =>
    obtain rfl := (done_next_iff ..).mp next
    exact (State.inv_iff _).mpr ⟨cpu, nor, nand, rfl, master, slave⟩
  | masterSlaveUpdate d clk =>
    obtain rfl := (done_next_iff ..).mp next
    exact (State.inv_iff _).mpr ⟨cpu, nor, nand, dLatch, masterSlaveUpdate_complementary master slave d clk⟩
  | masterSlaveReset =>
    obtain rfl := (done_next_iff ..).mp next
    exact (State.inv_iff _).mpr ⟨cpu, nor, nand, dLatch, rfl, rfl⟩
  | _ =>
    obtain rfl := (give_next_iff ..).mp next
    exact inv

/-- Settles O21: by what the step takes its instruction from; a refused call has no next state. -/
theorem everyStepKeepsTheInvariant : Obligations.EveryStepKeepsTheInvariant := by
  unfold Obligations.EveryStepKeepsTheInvariant
  intro s t inv next
  cases calls : s.calls with
  | nil =>
    rw [step_of_no_calls calls] at next
    exact exec_inv inv next
  | cons f rest =>
    cases decodes : decodeFrame f with
    | ok i =>
      rw [step_of_call calls decodes] at next
      exact exec_inv (s := s.setCalls rest) inv next
    | error e =>
      rw [step_of_rejected calls decodes] at next
      contradiction

/-- Settles O22: the reset CPU's memory lists no cell, its AC is 0 and Z set, and every latch is reset. -/
theorem resetMeetsTheInvariant : Obligations.ResetMeetsTheInvariant := by
  unfold Obligations.ResetMeetsTheInvariant
  exact (State.inv_iff _).mpr ⟨rfl, rfl, rfl, rfl, rfl, rfl⟩

end Sys2Proof.Machine
end

section
/-! PROOFS. The `step()` of a CPU that is not halted, seen from outside (R46, R48, R49, R94, R282, R283): the address
order, a store seen by the next fetch, and the halting law. -/

namespace Sys2Proof.Machine

section Fields

/-! What an execute phase writes of the fields other than AC and the flags, by opcode. -/

variable (w : Byte) (c : Cpu)

@[simp] theorem executePhase_pc : (executePhase w c).pc = c.pc := by
  unfold executePhase; split_ifs <;> rfl

@[simp] theorem executePhase_ir : (executePhase w c).ir = c.ir := by
  unfold executePhase; split_ifs <;> rfl

/-- LDA, ADD and STA access memory at their operand (R101). -/
theorem executePhase_mar :
    (executePhase w c).mar = if opcodeOf w ∈ [0b0001#4, 0b0010#4, 0b0011#4] then operandOf w else c.mar := by
  unfold executePhase; split_ifs <;> simp_all

/-- STA alone writes memory. -/
theorem executePhase_mem :
    (executePhase w c).mem = if opcodeOf w = 0b0011#4 then c.mem.write (operandOf w) (zext8 c.ac) else c.mem := by
  unfold executePhase; split_ifs <;> simp_all

/-- HLT alone writes the halt state. -/
theorem executePhase_halted : (executePhase w c).halted = if opcodeOf w = 0b1111#4 then true else c.halted := by
  unfold executePhase; split_ifs <;> simp_all

/-! The same of a whole step. -/

theorem steppedCpu_pc : (steppedCpu c).pc = c.pc + 1#4 := by
  simp [steppedCpu]

theorem steppedCpu_ir : (steppedCpu c).ir = c.mem.read c.pc := by
  simp [steppedCpu]

theorem steppedCpu_mar :
    (steppedCpu c).mar = if opcodeOf (c.mem.read c.pc) ∈ [0b0001#4, 0b0010#4, 0b0011#4]
      then operandOf (c.mem.read c.pc) else c.pc := by
  rw [steppedCpu, executePhase_mar, housekeeping_mar, fetchWord_mar]

theorem steppedCpu_mem :
    (steppedCpu c).mem = if opcodeOf (c.mem.read c.pc) = 0b0011#4
      then c.mem.write (operandOf (c.mem.read c.pc)) (zext8 c.ac) else c.mem := by
  rw [steppedCpu, executePhase_mem, housekeeping_mem, housekeeping_ac, fetchWord_mem, fetchWord_ac]

theorem steppedCpu_halted :
    (steppedCpu c).halted = if opcodeOf (c.mem.read c.pc) = 0b1111#4 then true else c.halted := by
  rw [steppedCpu, executePhase_halted, housekeeping_halted, fetchWord_halted]

end Fields

/-- Settles O18: the stepped CPU's fields; the circuits and the listed calls are in no phase of the step. -/
theorem everyStepAdvancesInAddressOrder : Obligations.EveryStepAdvancesInAddressOrder := by
  unfold Obligations.EveryStepAdvancesInAddressOrder
  intro s running
  have pc := steppedCpu_pc s.cpu
  have ir := steppedCpu_ir s.cpu
  have mar := steppedCpu_mar s.cpu
  generalize stepped : steppedCpu s.cpu = after at pc ir mar
  obtain ⟨text, completes⟩ := exec_cpuStep_writes running stepped
  have advances : after.pc.toNat = (s.cpu.pc.toNat + 1) % 16 := by
    rw [pc, BitVec.toNat_add]
    rfl
  exact ⟨_, completes, advances, ir, mar, rfl, rfl, rfl⟩

/-! Self-modifying code (R94). -/

/-- STA as a whole `step()`: what its fetch writes, and then the store. -/
theorem exec_cpuStep_of_sta {s : State} {a : Nibble} (running : s.cpu.halted = false)
    (sta : s.cpu.mem.read s.cpu.pc = (0b0011#4 ++ a : Byte)) :
    ∃ t text, exec .cpuStep s = .next t ∧ t = { s with
      cpu := { s.cpu with
        mem := s.cpu.mem.write a (zext8 s.cpu.ac), mar := a, ir := (0b0011#4 ++ a : Byte), pc := s.cpu.pc + 1#4,
        c := false, desc := text },
      ret := .none, draws := s.draws + 1 } := by
  have opcode : opcodeOf (s.cpu.mem.read s.cpu.pc) = 0b0011#4 := by rw [sta, opcodeOf_append]
  have operand : operandOf (s.cpu.mem.read s.cpu.pc) = a := by rw [sta, operandOf_append]
  have phase : executePhase (s.cpu.mem.read s.cpu.pc) = storeEffect a := by simp [executePhase, opcode, operand]
  have stepped : steppedCpu s.cpu = { fetchWord s.cpu with
      mem := s.cpu.mem.write a (zext8 s.cpu.ac), mar := a, c := false } := by
    rw [steppedCpu, phase, opcode, housekeeping_of_not_add (by decide)]
    rfl
  obtain ⟨text, completes⟩ := exec_cpuStep_writes running stepped
  rw [← sta]
  exact ⟨_, text, completes, rfl⟩

/-- Settles O19: the first step stores AC, zero-extended, at the address the second fetches from; that word is a NOP. -/
theorem nextFetchSeesTheStore : Obligations.NextFetchSeesTheStore := by
  unfold Obligations.NextFetchSeesTheStore
  intro s noCalls running canonical sta
  obtain ⟨t, _, stores, written⟩ := exec_cpuStep_of_sta running sta
  have noCallsNow : t.calls = [] := by rw [written]; exact noCalls
  have runningNow : t.cpu.halted = false := by rw [written]; exact running
  have pc : t.cpu.pc = s.cpu.pc + 1#4 := by rw [written]
  have draws : t.draws = s.draws + 1 := by rw [written]
  have stored : t.cpu.mem.read t.cpu.pc = zext8 s.cpu.ac := by
    rw [pc, written, Memory.read_write canonical, if_pos rfl]
  have isNop : opcodeOf (t.cpu.mem.read t.cpu.pc) ∉ [0b0001#4, 0b0010#4, 0b0011#4, 0b0100#4, 0b1111#4] := by
    rw [stored, zext8_opcode]
    decide
  obtain ⟨-, nopStep⟩ := nopClearsOnlyTheCarry
  obtain ⟨text, skips⟩ := nopStep t runningNow isNop
  refine ⟨t, _, text, (step_of_no_calls noCalls).trans stores, (step_of_no_calls noCallsNow).trans skips, ?_⟩
  rw [stored, pc, draws, zext8, ← BitVec.ofNat_toNat, BitVec.add_assoc]
  rfl

/-! The halting law (R283). -/

/-- The cell at an address holds a HLT word. -/
def Cpu.HltAt (c : Cpu) (a : Nibble) : Prop :=
  opcodeOf (c.mem.read a) = 0b1111#4

/-- No step makes a HLT word: a store writes a word of opcode 0 (R94). -/
theorem Cpu.hltAt_of_steppedCpu {c : Cpu} (canonical : c.mem.wf = true) {a : Nibble} (hlt : (steppedCpu c).HltAt a) :
    c.HltAt a := by
  rw [Cpu.HltAt, steppedCpu_mem] at hlt
  split_ifs at hlt
  · rw [Memory.read_write canonical] at hlt
    split_ifs at hlt
    · rw [zext8_opcode] at hlt
      contradiction
    · exact hlt
  · exact hlt

/-- A run without calls that is not halted and has the last `n` addresses that it went past free of HLT. -/
structure RanPast (n : Nat) (s : State) : Prop where
  noCalls : s.calls = []
  running : s.cpu.halted = false
  canonical : s.cpu.mem.wf = true
  passed : ∀ k < n, ¬s.cpu.HltAt (s.cpu.pc - BitVec.ofNat 4 (k + 1))

/-- A step either halts, at a HLT word, or goes past one more address. -/
theorem RanPast.step {n : Nat} {s : State} (ran : RanPast n s) :
    ∃ t, Machine.step s = .next t ∧ (s.cpu.HltAt s.cpu.pc ∧ t.cpu.halted = true ∨ RanPast (n + 1) t) := by
  refine ⟨_, (step_of_no_calls ran.noCalls).trans (exec_cpuStep_of_running ran.running), ?_⟩
  by_cases hlt : s.cpu.HltAt s.cpu.pc
  · exact .inl ⟨hlt, (steppedCpu_halted s.cpu).trans (if_pos hlt)⟩
  · refine .inr ⟨ran.noCalls, ?running, ?canonical, fun k below hltThen => ?passed⟩
    case running => exact (steppedCpu_halted s.cpu).trans ((if_neg hlt).trans ran.running)
    case canonical =>
      change (steppedCpu s.cpu).mem.wf = true
      rw [steppedCpu_mem]
      split_ifs
      · exact Memory.wf_write ran.canonical _ _
      · exact ran.canonical
    case passed =>
      change (steppedCpu s.cpu).HltAt ((steppedCpu s.cpu).pc - _) at hltThen
      have hltBefore := Cpu.hltAt_of_steppedCpu ran.canonical hltThen
      rw [steppedCpu_pc] at hltBefore
      cases k with
      | zero => exact hlt (by simpa using hltBefore)
      | succ j =>
        refine ran.passed j (by omega) ?_
        have : s.cpu.pc + 1#4 - BitVec.ofNat 4 (j + 1 + 1) = s.cpu.pc - BitVec.ofNat 4 (j + 1) := by
          bv_omega
        rwa [← this]

/-- After sixteen addresses no HLT is left to reach, and it stays so. -/
theorem RanPast.step_of_sixteen {s : State} (ran : RanPast 16 s) : ∃ t, Machine.step s = .next t ∧ RanPast 16 t := by
  obtain ⟨t, next, ⟨hlt, -⟩ | further⟩ := ran.step
  · exact absurd (by simpa using hlt) (ran.passed 15 (by decide))
  · exact ⟨t, next, { further with passed := fun k below => further.passed k (by omega) }⟩

def HaltsWithin (bound : Nat) (s : State) : Prop :=
  ∃ n t, n ≤ bound ∧ runSteps n s = .next t ∧ t.cpu.halted = true

def NeverHalts (s : State) : Prop :=
  ∀ n, ∃ t, runSteps n s = .next t ∧ t.cpu.halted = false

theorem runSteps_succ_of_next {s t : State} (next : step s = .next t) (n : Nat) :
    runSteps (n + 1) s = runSteps n t := by
  rw [runSteps, next]

theorem HaltsWithin.of_next {bound : Nat} {s t : State} (next : step s = .next t) (halts : HaltsWithin bound t) :
    HaltsWithin (bound + 1) s := by
  obtain ⟨n, u, within, run, halted⟩ := halts
  exact ⟨n + 1, u, Nat.succ_le_succ within, (runSteps_succ_of_next next n).trans run, halted⟩

theorem NeverHalts.of_next {s t : State} (running : s.cpu.halted = false) (next : step s = .next t)
    (never : NeverHalts t) : NeverHalts s
  | 0 => ⟨s, rfl, running⟩
  | n + 1 => by
    rw [runSteps_succ_of_next next]
    exact never n

theorem RanPast.neverHalts {s : State} (ran : RanPast 16 s) : NeverHalts s := by
  intro n
  induction n generalizing s with
  | zero => exact ⟨s, rfl, ran.running⟩
  | succ n ih =>
    obtain ⟨t, next, further⟩ := ran.step_of_sixteen
    rw [runSteps_succ_of_next next]
    exact ih further

/-- The halting law, from a run that still has `left` of the sixteen addresses before it. -/
theorem RanPast.haltsWithin_or_neverHalts {n left : Nat} {s : State} (ran : RanPast n s) (all : n + left = 16) :
    HaltsWithin left s ∨ NeverHalts s := by
  induction left generalizing n s with
  | zero =>
    subst all
    exact .inr ran.neverHalts
  | succ left ih =>
    obtain ⟨t, next, ⟨-, halted⟩ | further⟩ := ran.step
    · exact .inl (.of_next next ⟨0, t, Nat.zero_le _, rfl, halted⟩)
    · exact (ih further (by omega)).imp (.of_next next) (.of_next ran.running next)

/-- Settles O20: at the start no address has been passed. -/
theorem cpuHaltsWithinSixteenStepsOrNever : Obligations.CpuHaltsWithinSixteenStepsOrNever := by
  unfold Obligations.CpuHaltsWithinSixteenStepsOrNever
  intro s noCalls running canonical
  have start : RanPast 0 s := ⟨noCalls, running, canonical, fun k below => absurd below (Nat.not_lt_zero k)⟩
  exact start.haltsWithin_or_neverHalts rfl

end Sys2Proof.Machine
end

section
/-! PROOFS. The host's writes of memory (R89, R90), its copy (R287), and `disassemble` (R107). -/

namespace Sys2Proof.Machine

theorem Memory.read_eq_lookup (m : Memory) (a : Nibble) : m.read a = m.lookup a.toNat := rfl

theorem mask8_toNat {v : Int} (nonneg : 0 ≤ v) : (mask8 v).toNat = v.toNat % 256 := by
  rw [mask8_of_nonneg nonneg, BitVec.toNat_ofNat]

theorem exec_cpuSetDataInMemory (address value : Int) (s : State) :
    exec (.cpuSetDataInMemory address value) s =
      .next { s with cpu := { s.cpu with mem := hostWrite s.cpu.mem address value }, ret := .none } := rfl

/-- Settles O24: a cell after the one host write. -/
theorem setDataWritesAtMostOneCell : Obligations.SetDataWritesAtMostOneCell := by
  unfold Obligations.SetDataWritesAtMostOneCell
  intro s address value canonical
  refine ⟨_, exec_cpuSetDataInMemory address value s, fun a => ⟨fun addressed nonneg => ?written, fun other => ?kept⟩⟩
  all_goals rw [Memory.read_eq_lookup, Memory.lookup_hostWrite canonical]
  case written =>
    have fits : 0 ≤ address ∧ address ≤ 15 ∧ (a.toNat : Int) = address := by omega
    rw [if_pos fits, mask8_toNat nonneg]
  case kept => rw [if_neg (fun addressed => other addressed.2.2), Memory.read_eq_lookup]

/-- A cell that no word is for is as before (R90). -/
theorem Memory.lookup_loadWords_of_unaddressed {m : Memory} (canonical : m.wf = true) {words : List Int}
    {startAddress : Int} {a : Nat} (unaddressed : ∀ k < words.length, (a : Int) ≠ startAddress + k) :
    (loadWords m words startAddress).lookup a = m.lookup a := by
  induction words generalizing m startAddress with
  | nil => rfl
  | cons w rest ih =>
    have notFirst : (a : Int) ≠ startAddress := by simpa using unaddressed 0 (by simp)
    have notLater : ∀ k < rest.length, (a : Int) ≠ startAddress + 1 + k := by
      intro k below
      have := unaddressed (k + 1) (by simpa using below)
      push_cast at this
      omega
    rw [loadWords, ih (Memory.wf_hostWrite canonical ..) notLater, Memory.lookup_hostWrite canonical,
      if_neg (fun addressed => notFirst addressed.2.2)]

/-- Word `k` is in the cell it is for: no later word is for the same cell (R90). -/
theorem Memory.lookup_loadWords_of_addressed {m : Memory} (canonical : m.wf = true) {words : List Int}
    {startAddress w : Int} {a k : Nat} (word : words[k]? = some w) (addressed : (a : Int) = startAddress + k)
    (inRange : a ≤ 15) : (loadWords m words startAddress).lookup a = mask8 w := by
  induction words generalizing m startAddress k with
  | nil => simp at word
  | cons first rest ih =>
    have canonicalNow := Memory.wf_hostWrite canonical startAddress first
    rw [loadWords]
    cases k with
    | zero =>
      obtain rfl : first = w := by simpa using word
      rw [Memory.lookup_loadWords_of_unaddressed canonicalNow (fun k _ => by omega), Memory.lookup_hostWrite canonical,
        if_pos (by omega)]
    | succ k => exact ih canonicalNow (by simpa using word) (by push_cast at addressed; omega)

theorem exec_cpuLoadProgram (words : List Int) (startAddress : Int) (s : State) :
    exec (.cpuLoadProgram words startAddress) s =
      .next { s with cpu := { s.cpu with mem := loadWords s.cpu.mem words startAddress }, ret := .none } := rfl

/-- Settles O25: by whether a word is for the cell. -/
theorem loadProgramWritesTheWordsThatFit : Obligations.LoadProgramWritesTheWordsThatFit := by
  unfold Obligations.LoadProgramWritesTheWordsThatFit
  intro s words startAddress canonical
  refine ⟨_, exec_cpuLoadProgram words startAddress s, fun a => ?_⟩
  refine ⟨fun k w word addressed nonneg => ?_, fun unaddressed => ?_⟩
  · rw [Memory.read_eq_lookup, Memory.lookup_loadWords_of_addressed canonical word addressed (Nat.le_of_lt_succ a.isLt),
      mask8_toNat nonneg]
  · exact Memory.lookup_loadWords_of_unaddressed canonical unaddressed

theorem exec_cpuGetMemoryState (s : State) :
    exec .cpuGetMemoryState s = .next { s with ret := .memory s.cpu.mem.cells } := rfl

theorem Memory.cells_getElem? (m : Memory) (a : Nibble) : m.cells[a.toNat]? = some (m.read a) := by
  rw [Memory.cells, List.getElem?_map, List.getElem?_range a.isLt, Memory.read_eq_lookup, Option.map_some]

/-- Settles O27: the copy lists the sixteen cells in address order. -/
theorem getMemoryStateCopiesTheCells : Obligations.GetMemoryStateCopiesTheCells := by
  unfold Obligations.GetMemoryStateCopiesTheCells
  exact fun s => ⟨s.cpu.mem.cells, exec_cpuGetMemoryState s, rfl, s.cpu.mem.cells_getElem?⟩

theorem exec_cpuDisassemble (v : Int) (s : State) :
    exec (.cpuDisassemble v) s =
      .next { s with ret := .disassembly (mnemonicOf (mask8 v)) (Config.disasmText (mask8 v)) } := rfl

/-- The mnemonic by the opcode (R103, R107): every word has one of the six. -/
theorem mnemonicOf_eq_iff (w : Byte) :
    (mnemonicOf w = .lda ↔ (opcodeOf w).toNat = 1) ∧ (mnemonicOf w = .add ↔ (opcodeOf w).toNat = 2) ∧
    (mnemonicOf w = .sta ↔ (opcodeOf w).toNat = 3) ∧ (mnemonicOf w = .out ↔ (opcodeOf w).toNat = 4) ∧
    (mnemonicOf w = .hlt ↔ (opcodeOf w).toNat = 15) ∧
    (mnemonicOf w = .nop ↔ (opcodeOf w).toNat = 0 ∨ (5 ≤ (opcodeOf w).toNat ∧ (opcodeOf w).toNat ≤ 14)) := by
  revert w; decide

/-- Bits 7 to 4 of a number's byte (R11, R100). -/
theorem opcodeOf_mask8_toNat {v : Int} (nonneg : 0 ≤ v) : (opcodeOf (mask8 v)).toNat = v.toNat / 16 % 16 := by
  rw [opcodeOf, BitVec.extractLsb'_toNat, mask8_toNat nonneg, Nat.shiftRight_eq_div_pow]
  omega

/-- Settles O29: the mnemonic of the masked word, by its opcode. -/
theorem disassembleNamesTheMnemonic : Obligations.DisassembleNamesTheMnemonic := by
  unfold Obligations.DisassembleNamesTheMnemonic
  intro s v
  refine ⟨_, _, exec_cpuDisassemble v s, fun nonneg => ?_⟩
  rw [← opcodeOf_mask8_toNat nonneg]
  exact mnemonicOf_eq_iff (mask8 v)

end Sys2Proof.Machine
end

section
/-! PROOFS. Components do not interact (R14): what an operation leaves alone, by the component it writes. -/

namespace Sys2Proof.Machine

/-- Both states have the caller's list and every component but number `n` in common. -/
def AgreeExcept (n : Nat) (s t : State) : Prop :=
  (n ≠ 1 → t.fullAdder = s.fullAdder) ∧ (n ≠ 2 → t.rippleAdder = s.rippleAdder) ∧
  (n ≠ 3 → t.comparator = s.comparator) ∧ (n ≠ 9 → t.srNor = s.srNor) ∧
  (n ≠ 10 → t.srNand = s.srNand) ∧ (n ≠ 11 → t.dLatch = s.dLatch) ∧
  (n ≠ 12 → t.masterSlave = s.masterSlave) ∧ (n ≠ 13 → t.jk = s.jk) ∧
  (n ≠ 14 → t.tFlip = s.tFlip) ∧ (n ≠ 15 → t.counter = s.counter) ∧
  (n ≠ 16 → t.shift = s.shift) ∧ (n ≠ 17 → t.cpu = s.cpu) ∧ t.calls = s.calls

theorem agreeExcept_describe_setCpu (s : State) (v : Cpu) (r : Ret) :
    AgreeExcept 17 s ((describe (s.setCpu v)).setRet r) := by
  simp [AgreeExcept]

theorem agreeExcept_describe (s : State) (r : Ret) : AgreeExcept 17 s ((describe s).setRet r) := by
  simp [AgreeExcept]

theorem finishWord_agreeExcept {opcode : Nibble} {effect : Cpu → Cpu} {s t : State}
    (next : finishWord opcode effect s = .next t) : AgreeExcept 17 s t := by
  obtain rfl := (finishWord_next_iff ..).mp next
  exact agreeExcept_describe_setCpu ..

theorem exec_cpuStep_agreeExcept {s t : State} (next : exec .cpuStep s = .next t) : AgreeExcept 17 s t := by
  cases halted : s.cpu.halted with
  | false =>
    rw [exec_cpuStep_of_running halted, Host.Outcome.next.injEq, setCpu_fetch] at next
    exact next ▸ agreeExcept_describe_setCpu s (steppedCpu s.cpu) .none
  | true =>
    rw [exec_cpuStep_of_halted halted, Host.Outcome.next.injEq] at next
    exact next ▸ agreeExcept_describe s .none

/-- Settles O31: a CPU word and `step()` write the CPU; every other call makes at most one write, of its component. -/
theorem componentsDoNotInteract : Obligations.ComponentsDoNotInteract := by
  unfold Obligations.ComponentsDoNotInteract
  intro i s t next
  change AgreeExcept (componentOf i) s t
  cases i with
  | lda | add | sta | out | hlt => exact finishWord_agreeExcept next
  | nop0 | nop5 | nop6 | nop7 | nop8 | nop9 | nopA | nopB | nopC | nopD | nopE =>
    exact finishWord_agreeExcept (effect := fun c => c) next
  | cpuStep => exact exec_cpuStep_agreeExcept next
  | _ =>
    obtain rfl := (give_next_iff ..).mp next
    simp [AgreeExcept, componentOf, encode, call]

end Sys2Proof.Machine
end

section
/-! PROOFS. The opcode map (R103) and the words and calls that the spec writes out. -/

namespace Sys2Proof

/-- Settles O1: the five opcodes by their lemmas, any other by what a word can decode to. -/
theorem wordsDecodeByTheOpcodeMap : Obligations.WordsDecodeByTheOpcodeMap := by
  unfold Obligations.WordsDecodeByTheOpcodeMap
  intro opcode x
  refine ⟨?lda, ?add, ?sta, ?out, ?hlt, fun nop => ?nop⟩
  case lda => rintro rfl; exact Machine.decodeWord_lda x
  case add => rintro rfl; exact Machine.decodeWord_add x
  case sta => rintro rfl; exact Machine.decodeWord_sta x
  case out => rintro rfl; exact Machine.decodeWord_out x
  case hlt => rintro rfl; exact Machine.decodeWord_hlt x
  case nop =>
    have decoded := decodeWord_cases (opcode ++ x)
    rw [opcodeOf_append, operandOf_append] at decoded
    rcases decoded with ⟨rfl, -⟩ | ⟨rfl, -⟩ | ⟨rfl, -⟩ | ⟨rfl, -⟩ | ⟨rfl, -⟩ | ⟨-, row⟩
    case inr.inr.inr.inr.inr => exact row
    all_goals simp at nop

/-- Settles O2: words by the opcode map, calls by the operations of their component. -/
theorem specSampleWordsDecode : Obligations.SpecSampleWordsDecode := by
  unfold Obligations.SpecSampleWordsDecode
  exact ⟨Machine.decodeWord_lda 14#4, Machine.decodeWord_add 15#4, Machine.decodeWord_sta 12#4,
    Machine.decodeWord_out 0#4, Machine.decodeWord_hlt 7#4, rfl, rfl, rfl⟩

end Sys2Proof
end

section
/-! PROOFS. `reset()` of the circuits (R351 to R362). -/

namespace Sys2Proof.Machine

/-- Settles O32: every circuit's `reset()` writes its reset record, which the built machine holds. -/
theorem resetRestoresEachCircuit : Obligations.ResetRestoresEachCircuit := by
  unfold Obligations.ResetRestoresEachCircuit
  intro s
  exact ⟨rfl, rfl, rfl, rfl, rfl, rfl, rfl, rfl, rfl, rfl, rfl, rfl, rfl, rfl, rfl, rfl, rfl⟩

end Sys2Proof.Machine
end

section
/-! PROOFS. The adders and the comparator (R131 to R142). -/

namespace Sys2Proof.Machine

theorem exec_rippleAdderUpdate (a b : Quad Bit) (cin : Bit) (s : State) :
    exec (.rippleAdderUpdate a b cin) s = .next { s with rippleAdder := rippleAdd a b cin, ret := .none } := rfl

/-- Settles O34: each stage's law, added up to the stage. -/
theorem rippleAdderAddsFourBits : Obligations.RippleAdderAddsFourBits := by
  unfold Obligations.RippleAdderAddsFourBits
  intro a b cin s
  have stage0 := addBits_value a.e0 b.e0 cin
  generalize f0_eq : addBits a.e0 b.e0 cin = f0 at stage0
  have stage1 := addBits_value a.e1 b.e1 f0.cout
  generalize f1_eq : addBits a.e1 b.e1 f0.cout = f1 at stage1
  have stage2 := addBits_value a.e2 b.e2 f1.cout
  generalize f2_eq : addBits a.e2 b.e2 f1.cout = f2 at stage2
  have stage3 := addBits_value a.e3 b.e3 f2.cout
  generalize f3_eq : addBits a.e3 b.e3 f2.cout = f3 at stage3
  have stages : rippleAdd a b cin = ⟨⟨f0, f1, f2, f3⟩⟩ := by simp only [rippleAdd, f0_eq, f1_eq, f2_eq, f3_eq]
  refine ⟨f0, f1, f2, f3, ?_, stage0, by omega, by omega, ?_⟩
  · rw [exec_rippleAdderUpdate, stages]
  · simp only [quadValue]
    omega

/-- Settles O35: each accessor returns its cache. -/
theorem cachedResultsAreReturned : Obligations.CachedResultsAreReturned := by
  unfold Obligations.CachedResultsAreReturned
  exact fun s => ⟨rfl, rfl, rfl, rfl, rfl⟩

/-- The outcome is the order of the two numbers (R142). -/
def IsOrderOf (m n : Nat) (o : Ordering3) : Prop :=
  (o = .greater ↔ m > n) ∧ (o = .less ↔ m < n) ∧ (o = .equal ↔ m = n)

/-- The pair scanned first outweighs all below it; when it does not differ, they decide (R140). -/
theorem compareScan_cons_isOrderOf {rest : List (Bit × Bit)} {m n weight : Nat}
    (below : IsOrderOf m n (compareScan rest)) (m_lt : m < weight) (n_lt : n < weight) (x y : Bit) :
    IsOrderOf (m + weight * x.toNat) (n + weight * y.toNat) (compareScan ((x, y) :: rest)) := by
  rw [compareScan_cons]
  unfold IsOrderOf at below ⊢
  cases x <;> cases y <;> simp <;> omega

/-- The four pairs put before one another, the least significant first. -/
theorem compareQuads_isOrderOf (a b : Quad Bit) : IsOrderOf (quadValue a) (quadValue b) (compareQuads a b) := by
  have le (x : Bit) : x.toNat ≤ 1 := x.toNat_le
  have a0 := le a.e0; have a1 := le a.e1; have a2 := le a.e2
  have b0 := le b.e0; have b1 := le b.e1; have b2 := le b.e2
  have none : IsOrderOf 0 0 (compareScan []) := by simp [IsOrderOf, compareScan]
  have one := compareScan_cons_isOrderOf (weight := 1) none (by omega) (by omega) a.e0 b.e0
  have two := compareScan_cons_isOrderOf (weight := 2) one (by omega) (by omega) a.e1 b.e1
  have three := compareScan_cons_isOrderOf (weight := 4) two (by omega) (by omega) a.e2 b.e2
  have four := compareScan_cons_isOrderOf (weight := 8) three (by omega) (by omega) a.e3 b.e3
  simpa only [quadValue, compareQuads, Nat.zero_add, Nat.one_mul] using four

theorem exec_comparatorCompare (a b : Quad Bit) (s : State) :
    exec (.comparatorCompare a b) s =
      .next { s with comparator := ⟨compareQuads a b⟩, ret := .ordering (compareQuads a b) } := rfl

/-- Settles O36: the scan's outcome is the order of the values. -/
theorem compareOrdersTheValues : Obligations.CompareOrdersTheValues := by
  unfold Obligations.CompareOrdersTheValues
  exact fun a b s => ⟨compareQuads a b, exec_comparatorCompare a b s, compareQuads_isOrderOf a b⟩

end Sys2Proof.Machine
end

section
/-! PROOFS. The multiplexers, the decoder, the encoder after it, and the seven-segment table (R144 to R156). -/

namespace Sys2Proof.Machine

theorem exec_mux4GetOutput (data select : List Bit) (s : State) :
    exec (.mux4GetOutput data select) s = .next { s with ret := .bit (muxOutput 4 2 data select) } := rfl

theorem exec_mux8GetOutput (data select : List Bit) (s : State) :
    exec (.mux8GetOutput data select) s = .next { s with ret := .bit (muxOutput 8 3 data select) } := rfl

theorem muxOutput_of_lengths {data select : List Bit} {b : Bit} (indexed : data[selectIndex select]? = some b) :
    muxOutput data.length select.length data select = b := by
  rw [muxOutput, if_pos ⟨rfl, rfl⟩, List.getD_eq_getElem?_getD, indexed, Option.getD_some]

theorem muxOutput_of_wrong_length {n k : Nat} {data select : List Bit}
    (wrong : ¬(data.length = n ∧ select.length = k)) : muxOutput n k data select = false :=
  if_neg wrong

/-! The select word's first bit is the most significant (R12). -/

theorem selectIndex_two (s1 s0 : Bit) : selectIndex [s1, s0] = 2 * s1.toNat + s0.toNat := by
  simp [selectIndex]

theorem selectIndex_three (s2 s1 s0 : Bit) : selectIndex [s2, s1, s0] = 4 * s2.toNat + 2 * s1.toNat + s0.toNat := by
  simp only [selectIndex, List.foldl_cons, List.foldl_nil]
  omega

/-- Settles O37: the select word as an index, for both sizes. -/
theorem muxSelectsTheIndexedBit : Obligations.MuxSelectsTheIndexedBit := by
  unfold Obligations.MuxSelectsTheIndexedBit
  refine ⟨fun d0 d1 d2 d3 s1 s0 b s indexed => ?mux4, fun d0 d1 d2 d3 d4 d5 d6 d7 s2 s1 s0 b s indexed => ?mux8⟩
  case mux4 =>
    rw [← selectIndex_two] at indexed
    rw [exec_mux4GetOutput]
    exact congrArg (fun out => Host.Outcome.next { s with ret := .bit out }) (muxOutput_of_lengths indexed)
  case mux8 =>
    rw [← selectIndex_three] at indexed
    rw [exec_mux8GetOutput]
    exact congrArg (fun out => Host.Outcome.next { s with ret := .bit out }) (muxOutput_of_lengths indexed)

/-- Settles O38: the length test fails, for both sizes. -/
theorem muxOfWrongLengthReturnsZero : Obligations.MuxOfWrongLengthReturnsZero := by
  unfold Obligations.MuxOfWrongLengthReturnsZero
  intro data select s
  refine ⟨fun wrong => ?mux4, fun wrong => ?mux8⟩
  case mux4 => rw [exec_mux4GetOutput, muxOutput_of_wrong_length wrong]
  case mux8 => rw [exec_mux8GetOutput, muxOutput_of_wrong_length wrong]

theorem exec_decoderGetActiveOutput (enable a2 a1 a0 : Bit) (s : State) :
    exec (.decoderGetActiveOutput enable a2 a1 a0) s =
      .next { s with ret := .line (activeLine enable a2 a1 a0) } := rfl

/-- Three address bits name one of the eight lines (R148). -/
theorem activeLine_enabled (a2 a1 a0 : Bit) :
    ∃ k : Fin 8, activeLine true a2 a1 a0 = some k ∧ k.val = 4 * a2.toNat + 2 * a1.toNat + a0.toNat := by
  have le2 := a2.toNat_le
  have le1 := a1.toNat_le
  have le0 := a0.toNat_le
  exact ⟨Fin.ofNat 8 (4 * a2.toNat + 2 * a1.toNat + a0.toNat), rfl, Nat.mod_eq_of_lt (by omega)⟩

/-- Settles O39, by the value of `enable`. -/
theorem decoderActivatesTheAddressedLine : Obligations.DecoderActivatesTheAddressedLine := by
  unfold Obligations.DecoderActivatesTheAddressedLine
  intro enable a2 a1 a0 s
  refine ⟨_, exec_decoderGetActiveOutput enable a2 a1 a0 s, ?off, ?on⟩
  case off => rintro rfl; rfl
  case on => rintro rfl; exact activeLine_enabled a2 a1 a0

/-- The code of the line that three bits address is these bits (R152). -/
theorem encodeLine_of_address {a2 a1 a0 : Bit} {k : Nat} (address : k = 4 * a2.toNat + 2 * a1.toNat + a0.toNat) :
    encodeLine true k = [a2, a1, a0] := by
  subst address
  cases a2 <;> cases a1 <;> cases a0 <;> rfl

/-- Settles O41: the decoder's line is its address, which the encoder codes. -/
theorem encoderInvertsDecoder : Obligations.EncoderInvertsDecoder := by
  unfold Obligations.EncoderInvertsDecoder
  intro a2 a1 a0 s
  obtain ⟨k, active, address⟩ := activeLine_enabled a2 a1 a0
  refine ⟨k, _, _, exec_decoderGetActiveOutput true a2 a1 a0 s, ?line, exec_encoderGetOutput true k.val _, ?code⟩
  case line => rw [active]
  case code => rw [encodeLine_of_address address]

theorem exec_sevenSegGetSegmentsFor (n : Int) (s : State) :
    exec (.sevenSegGetSegmentsFor n) s = .next { s with ret := .bits (segmentsFor Config.segTable n) } := rfl

theorem segmentsFor_length (table : Fin 16 → Segments) (n : Int) : (segmentsFor table n).length = 7 := by
  unfold segmentsFor
  split <;> rfl

theorem segmentsFor_of_digit (table : Fin 16 → Segments) (k : Fin 16) :
    segmentsFor table k.val = segmentList (table k) := by
  have inRange : 0 ≤ (k.val : Int) ∧ (k.val : Int) ≤ 15 := by omega
  rw [segmentsFor, if_pos inRange, Int.toNat_natCast, Fin.ofNat_val_eq_self]

theorem segmentsFor_of_outside (table : Fin 16 → Segments) {n : Int} (outside : n < 0 ∨ 15 < n) :
    segmentsFor table n = [false, false, false, false, false, false, false] :=
  if_neg (by omega)

/-- Settles O42: the length in either case, then the digits and the numbers outside. -/
theorem sevenSegmentLooksUpTheTable : Obligations.SevenSegmentLooksUpTheTable := by
  unfold Obligations.SevenSegmentLooksUpTheTable
  intro n s
  refine ⟨_, exec_sevenSegGetSegmentsFor n s, segmentsFor_length .., ?digit, fun outside => ?outside⟩
  case digit =>
    rintro k rfl
    exact segmentsFor_of_digit Config.segTable k
  case outside =>
    rw [segmentsFor_of_outside Config.segTable outside]
    simp

end Sys2Proof.Machine
end

section
/-! PROOFS. The NAND latch beside the NOR latch, and the latches' outputs (R181 to R192, R201, R202). -/

namespace Sys2Proof.Machine

theorem exec_srNandUpdate (set rst : Bit) (s : State) :
    exec (.srNandUpdate set rst) s = .next { s with srNand := nandLatch set rst s.srNand, ret := .none } := rfl

theorem exec_srNandUpdate_hold (s : State) : exec (.srNandUpdate true true) s = .next { s with ret := .none } := rfl

/-- Settles O44: the four input pairs, then the hold after the invalid one. -/
theorem srNandFollowsItsTable : Obligations.SrNandFollowsItsTable := by
  unfold Obligations.SrNandFollowsItsTable
  intro s
  refine ⟨exec_srNandUpdate false false s, exec_srNandUpdate false true s, exec_srNandUpdate true false s,
    exec_srNandUpdate_hold s, ?_⟩
  rw [execAll_cons_of_next (exec_srNandUpdate ..), execAll_cons_of_next (exec_srNandUpdate_hold _), execAll]
  rfl

/-- But for the invalid inputs, the NAND latch's rule on complemented inputs is the NOR latch's (R187). -/
theorem nandLatch_not {set rst : Bit} (valid : (set && rst) = false) (l : Latch) :
    nandLatch (!set) (!rst) l = norLatch set rst l := by
  cases set <;> cases rst
  case true.true => contradiction
  all_goals rfl

/-- Settles O45: the rules agree on valid inputs; the invalid pairs are all ones and all zeros. -/
theorem nandMirrorsNor : Obligations.NandMirrorsNor := by
  unfold Obligations.NandMirrorsNor
  intro set rst s same
  refine ⟨_, _, exec_srNorUpdate set rst s, exec_srNandUpdate (!set) (!rst) s, fun valid => ?valid,
    fun invalid => ?invalid⟩
  case valid => rw [nandLatch_not valid, same]
  case invalid =>
    obtain ⟨rfl, rfl⟩ := Bool.and_eq_true_iff.mp invalid
    exact ⟨rfl, rfl⟩

/-- Settles O47: each accessor returns its field; the complements are part of the invariant. -/
theorem latchOutputsAreReturned : Obligations.LatchOutputsAreReturned := by
  unfold Obligations.LatchOutputsAreReturned
  intro s
  refine ⟨rfl, rfl, rfl, rfl, rfl, rfl, rfl, rfl, fun inv => ?_⟩
  obtain ⟨-, -, -, dLatch, -, slave⟩ := (State.inv_iff s).mp inv
  exact ⟨eq_of_beq dLatch, eq_of_beq slave⟩

end Sys2Proof.Machine
end

section
/-! PROOFS. Sequences of operations (R14): they complete, and one after another is the first and then the second. -/

namespace Sys2Proof.Machine

theorem execAll_completes (is : List Instr) (s : State) : ∃ t, execAll is s = .next t := by
  induction is generalizing s with
  | nil => exact ⟨s, rfl⟩
  | cons i rest ih =>
    obtain ⟨t, next⟩ := everyOperationCompletes i s
    rw [execAll_cons_of_next next]
    exact ih t

theorem execAll_append_of_next {is : List Instr} {s t : State} (next : execAll is s = .next t) (later : List Instr) :
    execAll (is ++ later) s = execAll later t := by
  induction is generalizing s with
  | nil =>
    obtain rfl := Host.Outcome.next.inj next
    rfl
  | cons i rest ih =>
    obtain ⟨u, first⟩ := everyOperationCompletes i s
    rw [execAll_cons_of_next first] at next
    rw [List.cons_append, execAll_cons_of_next first, ih next]

theorem execAll_singleton_of_next {i : Instr} {s t : State} (next : exec i s = .next t) : execAll [i] s = .next t := by
  rw [execAll_cons_of_next next, execAll]

end Sys2Proof.Machine
end

section
/-! PROOFS. The flip-flops: the falling-edge law (R203), the JK flip-flop's law (R214), the T flip-flop. -/

namespace Sys2Proof.Machine

/-- Settles O49. A high call leaves its d in the master, a low one the same Q in both latches, as reset does: so a low
call shows a new output only after a high one. -/
theorem masterSlaveChangesOnFallingEdgeOnly : Obligations.MasterSlaveChangesOnFallingEdgeOnly := by
  unfold Obligations.MasterSlaveChangesOnFallingEdgeOnly
  intro s earlier d clk reset
  obtain ⟨t, run⟩ := execAll_completes (earlier.map fun p => Instr.masterSlaveUpdate p.1 p.2) s
  refine ⟨t, _, run, exec_masterSlaveUpdate d clk t, ?_⟩
  cases clk with
  | true => rw [masterSlaveUpdate_high]
  | false =>
    rw [masterSlaveUpdate_low]
    rcases List.eq_nil_or_concat earlier with rfl | ⟨before, ⟨d', clk'⟩, rfl⟩
    · obtain rfl := Host.Outcome.next.inj run
      simp [reset]
    · obtain ⟨u, first⟩ := execAll_completes (before.map fun p => Instr.masterSlaveUpdate p.1 p.2) s
      rw [List.concat_eq_append, List.map_append, execAll_append_of_next first, List.map_singleton,
        execAll_singleton_of_next (exec_masterSlaveUpdate ..)] at run
      obtain rfl := Host.Outcome.next.inj run
      cases clk' <;> simp [masterSlaveUpdate_high, masterSlaveUpdate_low]

theorem jkClock_eq (f : JkFlipFlop) : jkClock f = { f with q := (f.j && !f.q) || (!f.k && f.q) } := by
  obtain ⟨q, j, k⟩ := f
  cases j <;> cases k <;> simp [jkClock]

theorem exec_jkClock (s : State) :
    exec .jkClock s = .next { s with
      jk := { s.jk with q := (s.jk.j && !s.jk.q) || (!s.jk.k && s.jk.q) }, ret := .none } := by
  rw [← jkClock_eq]
  rfl

/-- Settles O51: the law after any staging, then its four cases. -/
theorem jkClockFollowsTheCharacteristicLaw : Obligations.JkClockFollowsTheCharacteristicLaw := by
  unfold Obligations.JkClockFollowsTheCharacteristicLaw
  refine ⟨exec_jkClock, fun j k s => ?_⟩
  have staged := execAll_cons_of_next (exec_jkSetInputs j k s) [.jkClock]
  refine ⟨_, staged.trans (execAll_singleton_of_next (exec_jkClock _)), rfl, rfl, ?_⟩
  cases j <;> cases k <;> simp

theorem tClock_eq (f : TFlipFlop) : tClock f = ⟨f.q ^^ f.t, f.t⟩ := tClock_stageT f.t f

/-- Settles O52: staging as written, a clock as exclusive or with the staged T. -/
theorem tFlipFlopTogglesWhenStaged : Obligations.TFlipFlopTogglesWhenStaged := by
  unfold Obligations.TFlipFlopTogglesWhenStaged
  intro t s
  refine ⟨rfl, ?_⟩
  rw [← tClock_eq]
  rfl

/-- Settles O53: each accessor returns its output. -/
theorem flipFlopOutputsAreReturned : Obligations.FlipFlopOutputsAreReturned := by
  unfold Obligations.FlipFlopOutputsAreReturned
  exact fun s => ⟨rfl, rfl, rfl, rfl⟩

end Sys2Proof.Machine
end

section
/-! PROOFS. The counter (R230 to R238): one clock, any number of clocks, the mode and the accessors. -/

namespace Sys2Proof.Machine

theorem exec_counterClock (s : State) :
    exec .counterClock s = .next { s with counter := counterStep s.counter, ret := .none } := rfl

/-- Up, a bit toggles when every bit below it is 1: adding one (R237). -/
theorem quadValue_excitation_up (q : Quad Bit) :
    quadValue ⟨q.e0 ^^ (excitation true q).e0, q.e1 ^^ (excitation true q).e1, q.e2 ^^ (excitation true q).e2,
      q.e3 ^^ (excitation true q).e3⟩ = (quadValue q + 1) % 16 := by
  obtain ⟨e0, e1, e2, e3⟩ := q
  revert e0 e1 e2 e3; decide

/-- Down, a bit toggles when every bit below it is 0: subtracting one (R238). -/
theorem quadValue_excitation_down (q : Quad Bit) :
    quadValue ⟨q.e0 ^^ (excitation false q).e0, q.e1 ^^ (excitation false q).e1, q.e2 ^^ (excitation false q).e2,
      q.e3 ^^ (excitation false q).e3⟩ = (quadValue q + 15) % 16 := by
  obtain ⟨e0, e1, e2, e3⟩ := q
  revert e0 e1 e2 e3; decide

theorem counterStep_up (c : Counter) : (counterStep c).up = c.up := rfl

theorem counterStep_value_up {c : Counter} (up : c.up = true) :
    quadValue (counterBits (counterStep c)) = (quadValue (counterBits c) + 1) % 16 := by
  rw [counterStep_bits, up]
  exact quadValue_excitation_up (counterBits c)

theorem counterStep_value_down {c : Counter} (down : c.up = false) :
    quadValue (counterBits (counterStep c)) = (quadValue (counterBits c) + 15) % 16 := by
  rw [counterStep_bits, down]
  exact quadValue_excitation_down (counterBits c)

/-- The excitation in both modes at once: a bit toggles when every bit below it equals the mode (R230). -/
theorem excitation_eq (up : Bit) (q : Quad Bit) :
    excitation up q =
      ⟨true, q.e0 == up, (q.e0 == up) && (q.e1 == up), (q.e0 == up) && (q.e1 == up) && (q.e2 == up)⟩ := by
  cases up <;> simp [excitation]

/-- Settles O54: the value by the mode; each flip-flop keeps the toggle input staged for it. -/
theorem counterClockCountsByOne : Obligations.CounterClockCountsByOne := by
  unfold Obligations.CounterClockCountsByOne
  intro s
  refine ⟨_, exec_counterClock s, rfl, counterStep_value_up, counterStep_value_down, ?_⟩
  simp only [counterStep, tClock_stageT, excitation_eq, counterBits]
  trivial

/-- Settles O55, by the number of clocks. -/
theorem counterClocksGoRoundModulo16 : Obligations.CounterClocksGoRoundModulo16 := by
  unfold Obligations.CounterClocksGoRoundModulo16
  intro n
  induction n with
  | zero =>
    intro s
    have lt := quadValue_lt (counterBits s.counter)
    exact ⟨s, rfl, rfl, fun _ => by omega, fun _ => by omega⟩
  | succ n ih =>
    intro s
    obtain ⟨t, run, mode, countsUp, countsDown⟩ := ih { s with counter := counterStep s.counter, ret := .none }
    rw [List.replicate_succ, execAll_cons_of_next (exec_counterClock s)]
    refine ⟨t, run, mode, fun up => ?_, fun down => ?_⟩
    · rw [countsUp up, counterStep_value_up up]
      omega
    · rw [countsDown down, counterStep_value_down down]
      omega

/-- Settles O56: the mode's write, then each accessor. -/
theorem counterModeAndAccessors : Obligations.CounterModeAndAccessors := by
  unfold Obligations.CounterModeAndAccessors
  exact fun s => ⟨rfl, rfl, rfl, rfl⟩

end Sys2Proof.Machine
end

section
/-! PROOFS. The shift register (R240 to R244): staging, the accessors, and the serial law. -/

namespace Sys2Proof.Machine

theorem exec_shiftSetDataInput (v : Bit) (s : State) :
    exec (.shiftSetDataInput v) s = .next { s with shift := ⟨s.shift.bits, v⟩, ret := .none } := rfl

theorem exec_shiftGetSerialOut (s : State) :
    exec .shiftGetSerialOut s = .next { s with ret := .bit s.shift.bits.e3 } := rfl

/-- Settles O58: the staging, then each accessor. -/
theorem shiftStagingAndAccessors : Obligations.ShiftStagingAndAccessors := by
  unfold Obligations.ShiftStagingAndAccessors
  exact fun v s => ⟨exec_shiftSetDataInput v s, exec_shiftGetSerialOut s, rfl⟩

/-- The register after bits staged and clocked in, the first one first. -/
def shiftIn (r : ShiftRegister) (xs : List Bit) : ShiftRegister :=
  xs.foldl (fun r x => shiftStep ⟨r.bits, x⟩) r

theorem shiftIn_append (r : ShiftRegister) (xs ys : List Bit) : shiftIn r (xs ++ ys) = shiftIn (shiftIn r xs) ys :=
  List.foldl_append

/-- Four bits fill the register, whatever it held. -/
theorem shiftIn_four (r : ShiftRegister) (x1 x2 x3 x4 : Bit) :
    (shiftIn r [x1, x2, x3, x4]).bits = ⟨x4, x3, x2, x1⟩ := rfl

/-- Staging and clocking a sequence writes the register it fills, and nothing else but `ret`. -/
theorem execAll_stage_and_clock (xs : List Bit) (s : State) :
    ∃ r, execAll (xs.flatMap fun x => [Instr.shiftSetDataInput x, Instr.shiftClock]) s =
      .next { s with shift := shiftIn s.shift xs, ret := r } := by
  induction xs generalizing s with
  | nil => exact ⟨s.ret, rfl⟩
  | cons x rest ih =>
    obtain ⟨r, run⟩ := ih { s with shift := shiftStep ⟨s.shift.bits, x⟩, ret := .none }
    rw [List.flatMap_cons, List.cons_append, execAll_cons_of_next (exec_shiftSetDataInput x s), List.cons_append,
      execAll_cons_of_next (exec_shiftClock _)]
    exact ⟨r, run⟩

/-- Settles O59: the last four bits fill the register, the ones before them are shifted out. -/
theorem shiftRegisterHoldsTheLastFourBits : Obligations.ShiftRegisterHoldsTheLastFourBits := by
  unfold Obligations.ShiftRegisterHoldsTheLastFourBits
  intro s earlier x1 x2 x3 x4
  obtain ⟨r, run⟩ := execAll_stage_and_clock (earlier ++ [x1, x2, x3, x4]) s
  have bits : (shiftIn s.shift (earlier ++ [x1, x2, x3, x4])).bits = ⟨x4, x3, x2, x1⟩ := by
    rw [shiftIn_append, shiftIn_four]
  refine ⟨_, run, bits, rfl, rfl, _, exec_shiftGetSerialOut _, ?_⟩
  rw [bits]

end Sys2Proof.Machine
end
